-- ==== Sys2Proof/Word.lean ====
section
/-! DEFINITION. The plain words of the model: bytes, time base readings and the index types of the block. -/

namespace Sys2Proof

/-- One byte on a line or in a frame. -/
abbrev Byte := BitVec 8

/-- A reading of the 32-bit microsecond time base (R32). -/
abbrev Time := BitVec 32

/-- A site 0–7. -/
abbrev SiteId := Fin 8

/-- An instrument 0–5, and the port of that instrument. -/
abbrev InstrId := Fin 6

/-- A card position 0–15. -/
abbrev CardId := Fin 16

/-- A matrix bus 0–15. -/
abbrev BusId := Fin 16

/-- A live route entry 0–127. -/
abbrev EntryId := Fin 128

/-- An input line: 0–7 are SEAT0–SEAT7, 8–15 are START0–START7, 16 is LID (the order of R162). -/
abbrev LineId := Fin 17

end Sys2Proof
end

