-- ==== Sys2Proof/Syntax.lean ====
section
/-! DEFINITION. The commands of the block: one constructor for each row of spec/opcode_table.json, in the table's order.
A request row carries the TAG and the body bytes of the host's frame (R191); the row's KIND is fixed by the request
catalogue. A row for a timer, a grant or an order names only the site, port or entry it is about: what it delivers is held
in State. -/

namespace Sys2Proof

/-- A frame on the host line, without SYNC, LENGTH and CRC (R191). -/
structure Frame where
  kind : Byte
  tag : Byte
  body : List Byte
  deriving DecidableEq, Repr

/-- What a card answers to a read frame (R78): its ID byte and its 512 latched bits, bit 32 × bus + local node. -/
structure CardAnswer where
  id : Byte
  bits : BitVec 512
  deriving DecidableEq, Repr

/-- How a read transfer from the fixture memory ends (R174): with its bytes, or at a byte that the memory did not
acknowledge: 0 the bus address, 1 and 2 the word address, 3 the bus address with the read direction. -/
inductive MemoryAnswer where
  | bytes (data : List Byte)
  | refused (place : Fin 4)
  deriving DecidableEq, Repr

/-- The commands, one per row of the table. -/
inductive Instr where
  /-- RESET_N is taken; the operands are the levels at the pins at its release: the RATE straps, the seventeen input lines (bit l is line l, 1 high) and the six RDY lines (bit i is port i, 1 high) (R1). -/
  | powerOnReset (rate1 rate0 : Bool) (lines : BitVec 17) (rdy : BitVec 6)
  /-- The host sends (or the link takes) a frame whose KIND is no request in use (R194). -/
  | unknownKindFrame (kind tag : Byte) (body : List Byte)
  /-- Replies with the device code, revision, line rate code, capacities and time base reading (R199). -/
  | ident (tag : Byte) (body : List Byte)
  /-- STATUS part 0 reports the safe causes, fixture state, queue, chain controller, link watchdog and line rate (R200). -/
  | statusSummary (tag : Byte) (body : List Byte)
  /-- STATUS part 1 reports every site context, its teardown fields and its measurement context items (R200). -/
  | statusSites (tag : Byte) (body : List Byte)
  /-- STATUS part 2 reports every holder, wait queue, instrument record and port record (R200). -/
  | statusInstruments (tag : Byte) (body : List Byte)
  /-- STATUS part 3 reports up to 16 live route entries from a given first index (R200). -/
  | statusRoutes (tag : Byte) (body : List Byte)
  /-- STATUS part 4 reports the card table fields of every position (R200). -/
  | statusCards (tag : Byte) (body : List Byte)
  /-- STATUS part 5 reports every input line and clears the event latch marks it reports (R200). -/
  | statusInputs (tag : Byte) (body : List Byte)
  /-- Returns every counter group with its counters and first cause (R198). -/
  | countersRead (tag : Byte) (body : List Byte)
  /-- Clears the LINK counter group and its first cause (R198). -/
  | countersClearLink (tag : Byte) (body : List Byte)
  /-- Clears the WATCHDOG counter group and its first cause (R198). -/
  | countersClearWatchdog (tag : Byte) (body : List Byte)
  /-- Clears the five counters and the first cause of one port (R118). -/
  | countersClearPort (tag : Byte) (body : List Byte)
  /-- Clears every card fault count and first fault cause (R77). -/
  | countersClearCard (tag : Byte) (body : List Byte)
  /-- Queues the OK reply and holds the request in progress until the reply has left the line (R201). -/
  | softReset (tag : Byte) (body : List Byte)
  /-- When the last byte of the SOFT_RESET reply has left HTXD, the soft reset of every block is taken as one ordered event (R203). -/
  | softResetEffect
  /-- Replaces the link watchdog limit and restarts or stops the watchdog (R197). -/
  | watchdogSet (tag : Byte) (body : List Byte)
  /-- Checks and writes step records into consecutive slots, optionally clearing the store first (R10). -/
  | stepsLoad (tag : Byte) (body : List Byte)
  /-- Returns the contents of consecutive step slots (R12). -/
  | stepsRead (tag : Byte) (body : List Byte)
  /-- Checks and writes route definitions, optionally clearing them first (R53). -/
  | routedefLoad (tag : Byte) (body : List Byte)
  /-- Checks and writes limit sets, optionally clearing them first (R124). -/
  | limitsLoad (tag : Byte) (body : List Byte)
  /-- Replaces one calibration entry whole (R122). -/
  | calSet (tag : Byte) (body : List Byte)
  /-- Returns the eight calibration entries of one instrument (R122). -/
  | calRead (tag : Byte) (body : List Byte)
  /-- Checks and replaces an instrument record; the port reacts to the enable and source-capable fields (R46). -/
  | instrSet (tag : Byte) (body : List Byte)
  /-- The CARD form replaces a position's operate time, release time and wear threshold (R89). -/
  | cardSetCard (tag : Byte) (body : List Byte)
  /-- The CHAIN form replaces the refresh interval and restarts or stops the refresh timer (R90). -/
  | cardSetChain (tag : Byte) (body : List Byte)
  /-- Returns a present card to ACTIVE, sets its relearn mark and sets the pass-due mark (R91). -/
  | cardReset (tag : Byte) (body : List Byte)
  /-- Returns the wear counts of a card's crosspoints on the buses named (R95). -/
  | wearRead (tag : Byte) (body : List Byte)
  /-- Replaces the wear counts of a card's crosspoints on the buses named (R96). -/
  | wearLoad (tag : Byte) (body : List Byte)
  /-- Writes a site's entry step, start enable and step watchdog limit (R24). -/
  | siteSet (tag : Byte) (body : List Byte)
  /-- Checks and begins a run of an IDLE site and takes its entry step (R26). -/
  | start (tag : Byte) (body : List Byte)
  /-- Puts a site in RUN or MANUAL into TEARDOWN with cause HOST_ABORT (R184). -/
  | abort (tag : Byte) (body : List Byte)
  /-- Moves an IDLE site into MANUAL (R29). -/
  | manual (tag : Byte) (body : List Byte)
  /-- Has a MANUAL site take one step record given by the host (R30). -/
  | direct (tag : Byte) (body : List Byte)
  /-- Puts a MANUAL site into TEARDOWN with cause CLEARED (R185). -/
  | siteClear (tag : Byte) (body : List Byte)
  /-- Writes one site variable and its valid flag (R22). -/
  | varSet (tag : Byte) (body : List Byte)
  /-- Returns the eight variables of a site (R23). -/
  | varRead (tag : Byte) (body : List Byte)
  /-- Sets in-flags of a site and retests a waiting WAIT_FLAG (R21). -/
  | flagRaise (tag : Byte) (body : List Byte)
  /-- Clears out-flags and in-flags of a site (R21). -/
  | flagClear (tag : Byte) (body : List Byte)
  /-- Removes up to n oldest records, returns them, and examines the space list (R154). -/
  | fetch (tag : Byte) (body : List Byte)
  /-- Returns the fixture state, identity held and fixture memory engine state (R171). -/
  | fixtureRead (tag : Byte) (body : List Byte)
  /-- Puts a host-supplied identity in force as EMULATED (R172). -/
  | fixtureDefine (tag : Byte) (body : List Byte)
  /-- Begins a load with the lid closed, or clears the identity to NONE with the lid open (R173). -/
  | fixtureReload (tag : Byte) (body : List Byte)
  /-- Gives ownership of the fixture memory to LINK while the lid is open and every site is at rest (R175). -/
  | fixmemTake (tag : Byte) (body : List Byte)
  /-- Returns ownership of the fixture memory to MONITOR (R175). -/
  | fixmemGive (tag : Byte) (body : List Byte)
  /-- Checks and starts a read transfer from the fixture memory (R176). -/
  | fixmemRead (tag : Byte) (body : List Byte)
  /-- Checks and starts a page write transfer to the fixture memory (R176). -/
  | fixmemWrite (tag : Byte) (body : List Byte)
  /-- Replaces the settings of all seventeen input lines and rejudges each line (R162). -/
  | inputsSet (tag : Byte) (body : List Byte)
  /-- Adds the safe cause REQUEST (R190). -/
  | safeEnter (tag : Byte) (body : List Byte)
  /-- Removes the safe cause REQUEST (R190). -/
  | safeLeave (tag : Byte) (body : List Byte)
  /-- `bytes` arrive on HRXD; the last of them completes a good frame (R193). -/
  | goodFrameArrival (bytes : List Byte)
  /-- `bytes` arrive on HRXD and bring a LENGTH above 1,024 (R192). -/
  | frameLengthDrop (bytes : List Byte)
  /-- A gap of 10,000 µs within an incomplete frame drops the frame and counts a FRAGMENT (R192). -/
  | fragmentGapExpiry
  /-- The last byte of a frame leaves HTXD and frees its transmit queue place (R195). -/
  | frameSent
  /-- Expiry of the link watchdog counts, sends a WATCHDOG notice and adds the safe cause LINK (R197). -/
  | linkWatchdogExpiry
  /-- A safety controller order reaches a runner and puts a site in RUN or MANUAL into TEARDOWN (R188). -/
  | safeOrder (site : SiteId)
  /-- The elapsed time of a waiting DELAY reaches its duration and the step is done (R16). -/
  | delayExpiry (site : SiteId)
  /-- A waiting WAIT_FLAG reaches its timeout and ends as judged fail (R19). -/
  | waitFlagTimeout (site : SiteId)
  /-- Expiry of a site's step watchdog in RUN puts the site into TEARDOWN with cause STEP_TIMEOUT (R25). -/
  | stepWatchdogExpiry (site : SiteId)
  /-- The outcome that `port` reports for a teardown source-off is taken at the runner (R180). -/
  | quietOutcome (port : InstrId)
  /-- A grant by handover reaches the site's runner and completes a waiting ACQUIRE (R35). -/
  | grantEvent (site : SiteId) (inst : InstrId)
  /-- A MAKING entry's make timer expires, the entry becomes MADE and its waiting site continues (R62). -/
  | makeTimerExpiry (entry : EntryId)
  /-- A BREAKING entry's release timer expires, its nodes and entry are freed and its site is told (R67). -/
  | releaseTimerExpiry (entry : EntryId)
  /-- The discovery pass ends; `answers` holds what each position answered (none: no answer marker) (R80). -/
  | discoveryEnd (answers : Vector (Option CardAnswer) 16)
  /-- A write frame has been sent to a present position; after the last one the phase becomes LATCH (R82). -/
  | writeFrameSent
  /-- The latch pulse updates every latched record, notes closings and enters VERIFY (R83). -/
  | latch
  /-- The answer (none: no answer marker) to the read frame of the next present position (R84). -/
  | readFrameAnswer (answer : Option CardAnswer)
  /-- The refresh timer expires, sets the pass-due mark and reloads (R88). -/
  | refreshExpiry
  /-- An ACK from the adapter is accepted or discarded as STALE; accepted, it ends the command exchange (R106). -/
  | portAck (port : InstrId) (seq : Byte) (body : List Byte)
  /-- A NAK from the adapter is accepted or discarded as STALE; accepted, it ends the exchange with step error NAK (R106). -/
  | portNak (port : InstrId) (seq : Byte) (body : List Byte)
  /-- A VALUE from the adapter, accepted in FETCHING, ends the trigger cycle and hands a sample to the acquisition unit (R111). -/
  | portValue (port : InstrId) (seq : Byte) (body : List Byte)
  /-- An IDENT from the adapter, accepted, ends bring-up or a probe and puts the port in IDLE (R107). -/
  | portIdent (port : InstrId) (seq : Byte) (body : List Byte)
  /-- `bytes` arrive on PnRXD and bring a message that is not sound (R109). -/
  | portBadChecksum (port : InstrId) (bytes : List Byte)
  /-- The response timer expires, the exchange fails with TIMEOUT and the port sends CANCEL (R107). -/
  | responseTimeout (port : InstrId)
  /-- The last byte of a CANCEL leaves the line and the port goes to IDLE or OFFLINE (R107). -/
  | cancelSent (port : InstrId)
  /-- While OFFLINE the probe timer expires and the port sends a HELLO probe (R107). -/
  | probeTimerExpiry (port : InstrId)
  /-- A change of the raw RDY level restarts the RDY filter's stability time (R110). -/
  | rdyRawChange (port : InstrId) (level : Bool)
  /-- The raw RDY level has held for the filter time and the filtered level changes, acting on the trigger cycle in TRIGGERED (R110). -/
  | rdyFilteredChange (port : InstrId)
  /-- The trigger width has run and TRIG returns low (R111). -/
  | triggerPulseEnd (port : InstrId)
  /-- The spacing since the previous trigger has run and the port gives the next trigger (R112). -/
  | triggerSpacing (port : InstrId)
  /-- A change of the raw level of an input line restarts its filter time (R159). -/
  | inputRawChange (line : LineId) (level : Bool)
  /-- An accepted SEAT change is latched, reported and handed to its site's runner (R161). -/
  | seatChange (site : SiteId)
  /-- An accepted START change is latched and reported; a start press is handed to the runner (R161). -/
  | startChange (site : SiteId)
  /-- An accepted LID change to open adds the safe cause LID and drops a waiting load (R166). -/
  | lidOpen
  /-- An accepted LID change to closed removes LID, returns the memory to MONITOR and begins a load unless EMULATED (R167). -/
  | lidClose
  /-- The HEADER read ends with its nine bytes, or without an acknowledge (R168). -/
  | loadHeaderDone (answer : MemoryAnswer)
  /-- The BODY read ends with its bytes, or without an acknowledge (R169). -/
  | loadBodyDone (answer : MemoryAnswer)
  /-- The read transfer ends with its bytes, or without an acknowledge (R176). -/
  | fixmemReadDone (answer : MemoryAnswer)
  /-- The write transfer ends: none, every byte acknowledged (the write cycle begins); some k, NOACK at its byte number k, the bus address being byte 0, the word address bytes 1 and 2, the data bytes from 3 on (R176). -/
  | fixmemWriteDone (refused : Option Nat)
  /-- One poll of the memory during its write cycle, acknowledged or not (R174). -/
  | fixmemWritePoll (ack : Bool)
  /-- A sound message from the adapter whose kind the port does not know is discarded and counted as STALE (R102). -/
  | portUnknownKindMessage (port : InstrId) (kind seq : Byte) (body : List Byte)
  deriving DecidableEq, Repr

end Sys2Proof
end

