-- ==== Sys2Proof/Decode.lean ====
section
/-! DEFINITION. The request catalogue (The Host Link): which command of the table a frame of the host is. The table gives
no row any bits, so no word spells a command. -/

namespace Sys2Proof

/-- The row that a STATUS frame belongs to, by its part code (R200); a frame that R200 refuses is filed under part 0. -/
def statusRow (tag : BitVec 8) (body : List (BitVec 8)) : Instr :=
  match body.head? with
  | some 1 => .statusSites tag body
  | some 2 => .statusInstruments tag body
  | some 3 => .statusRoutes tag body
  | some 4 => .statusCards tag body
  | some 5 => .statusInputs tag body
  | _ => .statusSummary tag body

/-- The row that a COUNTERS_CLEAR frame belongs to, by its group code (R198). -/
def countersClearRow (tag : BitVec 8) (body : List (BitVec 8)) : Instr :=
  match body.head? with
  | some 1 => .countersClearWatchdog tag body
  | some 2 => .countersClearPort tag body
  | some 3 => .countersClearCard tag body
  | _ => .countersClearLink tag body

/-- The row that a CARD_SET frame belongs to, by its form byte (R89, R90). -/
def cardSetRow (tag : BitVec 8) (body : List (BitVec 8)) : Instr :=
  match body.head? with
  | some 1 => .cardSetChain tag body
  | _ => .cardSetCard tag body

/-- The command that a frame of the host is, by its KIND (the request catalogue). -/
def requestCommand (f : Frame) : Instr :=
  match f.kind.toNat with
  | 0x01 => .ident f.tag f.body
  | 0x02 => statusRow f.tag f.body
  | 0x03 => .countersRead f.tag f.body
  | 0x04 => countersClearRow f.tag f.body
  | 0x05 => .softReset f.tag f.body
  | 0x06 => .watchdogSet f.tag f.body
  | 0x08 => .stepsLoad f.tag f.body
  | 0x09 => .stepsRead f.tag f.body
  | 0x0A => .routedefLoad f.tag f.body
  | 0x0B => .limitsLoad f.tag f.body
  | 0x0C => .calSet f.tag f.body
  | 0x0D => .calRead f.tag f.body
  | 0x0E => .instrSet f.tag f.body
  | 0x10 => cardSetRow f.tag f.body
  | 0x11 => .cardReset f.tag f.body
  | 0x12 => .wearRead f.tag f.body
  | 0x13 => .wearLoad f.tag f.body
  | 0x18 => .siteSet f.tag f.body
  | 0x19 => .start f.tag f.body
  | 0x1A => .abort f.tag f.body
  | 0x1B => .manual f.tag f.body
  | 0x1C => .direct f.tag f.body
  | 0x1D => .siteClear f.tag f.body
  | 0x1E => .varSet f.tag f.body
  | 0x1F => .varRead f.tag f.body
  | 0x20 => .flagRaise f.tag f.body
  | 0x21 => .flagClear f.tag f.body
  | 0x24 => .fetch f.tag f.body
  | 0x28 => .fixtureRead f.tag f.body
  | 0x29 => .fixtureDefine f.tag f.body
  | 0x2A => .fixtureReload f.tag f.body
  | 0x2B => .fixmemTake f.tag f.body
  | 0x2C => .fixmemGive f.tag f.body
  | 0x2D => .fixmemRead f.tag f.body
  | 0x2E => .fixmemWrite f.tag f.body
  | 0x2F => .inputsSet f.tag f.body
  | 0x30 => .safeEnter f.tag f.body
  | 0x31 => .safeLeave f.tag f.body
  | _ => .unknownKindFrame f.kind f.tag f.body

/-- The frame that a request command carries (none for an event). -/
def requestFrame : Instr → Option Frame
  | .unknownKindFrame kind tag body => some ⟨kind, tag, body⟩
  | .ident tag body => some ⟨0x01, tag, body⟩
  | .statusSummary tag body | .statusSites tag body | .statusInstruments tag body | .statusRoutes tag body
  | .statusCards tag body | .statusInputs tag body => some ⟨0x02, tag, body⟩
  | .countersRead tag body => some ⟨0x03, tag, body⟩
  | .countersClearLink tag body | .countersClearWatchdog tag body | .countersClearPort tag body
  | .countersClearCard tag body => some ⟨0x04, tag, body⟩
  | .softReset tag body => some ⟨0x05, tag, body⟩
  | .watchdogSet tag body => some ⟨0x06, tag, body⟩
  | .stepsLoad tag body => some ⟨0x08, tag, body⟩
  | .stepsRead tag body => some ⟨0x09, tag, body⟩
  | .routedefLoad tag body => some ⟨0x0A, tag, body⟩
  | .limitsLoad tag body => some ⟨0x0B, tag, body⟩
  | .calSet tag body => some ⟨0x0C, tag, body⟩
  | .calRead tag body => some ⟨0x0D, tag, body⟩
  | .instrSet tag body => some ⟨0x0E, tag, body⟩
  | .cardSetCard tag body | .cardSetChain tag body => some ⟨0x10, tag, body⟩
  | .cardReset tag body => some ⟨0x11, tag, body⟩
  | .wearRead tag body => some ⟨0x12, tag, body⟩
  | .wearLoad tag body => some ⟨0x13, tag, body⟩
  | .siteSet tag body => some ⟨0x18, tag, body⟩
  | .start tag body => some ⟨0x19, tag, body⟩
  | .abort tag body => some ⟨0x1A, tag, body⟩
  | .manual tag body => some ⟨0x1B, tag, body⟩
  | .direct tag body => some ⟨0x1C, tag, body⟩
  | .siteClear tag body => some ⟨0x1D, tag, body⟩
  | .varSet tag body => some ⟨0x1E, tag, body⟩
  | .varRead tag body => some ⟨0x1F, tag, body⟩
  | .flagRaise tag body => some ⟨0x20, tag, body⟩
  | .flagClear tag body => some ⟨0x21, tag, body⟩
  | .fetch tag body => some ⟨0x24, tag, body⟩
  | .fixtureRead tag body => some ⟨0x28, tag, body⟩
  | .fixtureDefine tag body => some ⟨0x29, tag, body⟩
  | .fixtureReload tag body => some ⟨0x2A, tag, body⟩
  | .fixmemTake tag body => some ⟨0x2B, tag, body⟩
  | .fixmemGive tag body => some ⟨0x2C, tag, body⟩
  | .fixmemRead tag body => some ⟨0x2D, tag, body⟩
  | .fixmemWrite tag body => some ⟨0x2E, tag, body⟩
  | .inputsSet tag body => some ⟨0x2F, tag, body⟩
  | .safeEnter tag body => some ⟨0x30, tag, body⟩
  | .safeLeave tag body => some ⟨0x31, tag, body⟩
  | _ => none

/-- The KIND is a request in use: the catalogue files a frame of it under a row of its own. -/
def kindInUse (kind : BitVec 8) : Bool :=
  match requestCommand ⟨kind, 0, []⟩ with
  | .unknownKindFrame _ _ _ => false
  | _ => true

/-- The command that a word spells by the table's bits: none, since the table gives its rows no bits. -/
def decodeTableWord (_nbits _w : Nat) : Option Instr := none

end Sys2Proof
end

