-- ==== Sys2Proof/Machine/Table.lean ====
section
/-! DEFINITION. A numbered store that is mostly empty (step slots, route definitions, limit sets, live route entries, the
node map, wear counts), as a list of its filled places in rising order of their numbers. -/

namespace Sys2Proof.Machine

/-- The filled places of a numbered store, each with its number. -/
structure Table (α : Type) where
  entries : List (Nat × α)
  deriving DecidableEq, Repr

/-- The store with nothing in it. -/
def Table.empty {α : Type} : Table α := ⟨[]⟩

/-- What place `k` holds. -/
def Table.get {α : Type} (t : Table α) (k : Nat) : Option α := t.entries.lookup k

def insertRow {α : Type} (k : Nat) (v : α) : List (Nat × α) → List (Nat × α)
  | [] => [(k, v)]
  | (j, w) :: rest =>
    if k < j then (k, v) :: (j, w) :: rest
    else if k = j then (k, v) :: rest
    else (j, w) :: insertRow k v rest

/-- Place `k` filled with `v`. -/
def Table.put {α : Type} (t : Table α) (k : Nat) (v : α) : Table α := ⟨insertRow k v t.entries⟩

/-- Place `k` emptied. -/
def Table.erase {α : Type} (t : Table α) (k : Nat) : Table α := ⟨t.entries.filter fun e => e.1 != k⟩

/-- Place `k` filled or emptied. -/
def Table.assign {α : Type} (t : Table α) (k : Nat) : Option α → Table α
  | some v => t.put k v
  | none => t.erase k

/-- Consecutive places from `k` on take the values listed (none empties a place). -/
def Table.assignFrom {α : Type} (t : Table α) (k : Nat) : List (Option α) → Table α
  | [] => t
  | v :: rest => (t.assign k v).assignFrom (k + 1) rest

/-- The canonical form: the numbers rise strictly. -/
def Table.wf {α : Type} (t : Table α) : Bool := decide ((t.entries.map Prod.fst).Pairwise (· < ·))

end Sys2Proof.Machine
end

