-- ==== Sys2Proof/Machine/Types.lean ====
section
/-! DEFINITION. The data the blocks of the 2860 hold, chapter by chapter. Every structure is plain data. -/

namespace Sys2Proof.Machine

/-! ### Time (R32) -/

/-- A running timer: the reading at which it started and its duration in µs. -/
structure Timer where
  start : Time
  duration : Nat
  deriving DecidableEq, Repr

/-! ### Step records (R9, R11, Formats) -/

inductive Next where
  | slot (n : Nat)
  | chainEnd
  deriving DecidableEq, Repr

inductive ReduceMode where
  | mean | min | max | span
  deriving DecidableEq, Repr

inductive FlagMode where
  | any | all
  deriving DecidableEq, Repr

/-- The fields of a CONFIG message and of the last configuration (R101, R103). -/
structure ConfigFields where
  function : Byte
  range : Byte
  aperture : Byte
  level : BitVec 24
  deriving DecidableEq, Repr

/-- The kind fields of a MEASURE step (R126). -/
structure MeasureFields where
  inst : InstrId
  range : Fin 8
  route : Option Byte
  samples : Nat
  spacing : BitVec 16
  mode : ReduceMode
  limit : Option Byte
  store : Option (Fin 8)
  record : Bool
  requireZero : Bool
  deriving DecidableEq, Repr

/-- The kind fields of a ZERO step (R140). -/
structure ZeroFields where
  inst : InstrId
  range : Fin 8
  route : Byte
  samples : Nat
  spacing : BitVec 16
  deriving DecidableEq, Repr

inductive StepKind where
  | acquire (inst : InstrId)
  | release (inst : InstrId)
  | connect (definition : Byte)
  /-- none is DISCONNECT ALL (R64) -/
  | disconnect (definition : Option Byte)
  | configure (inst : InstrId) (fields : ConfigFields)
  | output (inst : InstrId) (on : Bool)
  | measure (fields : MeasureFields)
  | zero (fields : ZeroFields)
  | delay (duration : BitVec 24)
  | signal (mask : Byte)
  | waitFlag (mask : Byte) (mode : FlagMode) (timeout : BitVec 16)
  | chainEnd
  deriving DecidableEq, Repr

structure StepRecord where
  tag : BitVec 16
  next : Next
  onFail : Option Next
  kind : StepKind
  deriving DecidableEq, Repr

/-! ### Site contexts (R1, R7, R178) -/

inductive SiteState where
  | unseated | idle | manual | run | teardown
  deriving DecidableEq, Repr

inductive WaitReason where
  | lease | node | settle | port | space | flag | delay | release
  deriving DecidableEq, Repr

/-- The phase of R7; the wait reason is present exactly in phase WAIT. -/
inductive Phase where
  | noStep
  | step
  | wait (reason : WaitReason)
  deriving DecidableEq, Repr

/-- The step a site takes or last took: a slot, or 0xFFFF for a DIRECT step. -/
inductive StepRef where
  | slot (n : Nat)
  | direct
  deriving DecidableEq, Repr

/-- Teardown causes (R5). -/
inductive Cause where
  | complete | hostAbort | stepError | stepTimeout | seatLost | lid | linkWatchdog | safeRequest | cleared
  deriving DecidableEq, Repr

/-- Step error codes (R15). -/
inductive StepError where
  | badStep | noLease | order | window | conflict | routesFull | noCard | hot | noRoute | routeFault | timeout | nak
  | offline | noZeroOvr | safe
  deriving DecidableEq, Repr

inductive Bin where
  | pass | margin | failLow | failHigh | invalid | noJudge
  deriving DecidableEq, Repr

inductive Worst where
  | pass | margin | fail
  deriving DecidableEq, Repr

inductive Verdict where
  | pass | margin | fail | aborted
  deriving DecidableEq, Repr

inductive TeardownPhase where
  | stop | quiet | breakRoutes | release | record
  deriving DecidableEq, Repr

inductive Origin where
  | run | manual
  deriving DecidableEq, Repr

structure Variable where
  value : Int
  valid : Bool
  deriving DecidableEq, Repr

/-- A variable after power-on reset, SOFT_RESET and a START that clears (R1, R27). -/
def Variable.cleared : Variable := ⟨0, false⟩

/-! ### Measurement contexts (R125) -/

inductive MeasurePhase where
  | empty | checking | sampling | posting
  deriving DecidableEq, Repr

/-- A result once judged (R136). -/
structure Judged where
  value : Int
  bin : Bin
  ovr : Bool
  uncal : Bool
  noZero : Bool
  noRef : Bool
  manual : Bool
  deriving DecidableEq, Repr

/-- The measurement context of one site; the step record it is about is the site's step in progress. `overrange` holds
the sign (true negative). -/
structure Measure where
  phase : MeasurePhase
  entry : Option EntryId
  zero : Option Int
  taken : Nat
  sum : Int
  minimum : Option Int
  maximum : Option Int
  overrange : Option Bool
  noZero : Bool
  uncal : Bool
  unitCode : Byte
  firstTrigger : Time
  lastConversion : Time
  result : Option Judged
  deriving DecidableEq, Repr

/-- An EMPTY context. -/
def Measure.empty : Measure :=
  { phase := .empty, entry := none, zero := none, taken := 0, sum := 0, minimum := none, maximum := none,
    overrange := none, noZero := false, uncal := false, unitCode := 0, firstTrigger := 0, lastConversion := 0,
    result := none }

/-- One site context. The fields from `taking` on are what a step in progress keeps: its record, its DELAY or WAIT_FLAG
timer, the entry a SETTLE wait is on and the physical nodes a NODE wait needs. The held-instrument set is a view of the
leases (R34). -/
structure Site where
  state : SiteState
  phase : Phase
  current : Option StepRef
  entryStep : Nat
  startEnable : Bool
  watchdogLimit : BitVec 16
  watchdog : Option Timer
  runNumber : BitVec 16
  runStart : Time
  passCount : BitVec 32
  marginCount : BitVec 32
  failCount : BitVec 32
  noJudgeCount : BitVec 32
  stepsTaken : BitVec 32
  worst : Option Worst
  lastJudgement : Option Bin
  cause : Option Cause
  errorCode : Option StepError
  teardownStep : Option StepRef
  hot : Bool
  vars : Vector Variable 8
  inFlags : Byte
  outFlags : Byte
  teardownPhase : Option TeardownPhase
  origin : Option Origin
  outstanding : BitVec 6
  taking : Option StepRecord
  stepTimer : Option Timer
  settleOn : Option EntryId
  needNodes : List Nat
  meas : Measure
  deriving DecidableEq, Repr

/-- A site context after power-on reset (R1, R178). -/
def Site.powerOn : Site :=
  { state := .unseated, phase := .noStep, current := none, entryStep := 0, startEnable := false, watchdogLimit := 0,
    watchdog := none, runNumber := 0, runStart := 0, passCount := 0, marginCount := 0, failCount := 0,
    noJudgeCount := 0, stepsTaken := 0, worst := none, lastJudgement := none, cause := none, errorCode := none,
    teardownStep := none, hot := false, vars := .replicate 8 .cleared, inFlags := 0, outFlags := 0,
    teardownPhase := none, origin := none, outstanding := 0, taking := none, stepTimer := none, settleOn := none,
    needNodes := [], meas := .empty }

/-! ### Leases and instrument records (R34, R44) -/

structure Lease where
  holder : Option SiteId
  queue : List SiteId
  deriving DecidableEq, Repr

inductive Terminal where
  | hi | lo | shi | slo
  deriving DecidableEq, Repr

structure InstrRecord where
  enable : Bool
  hi : Option BusId
  lo : Option BusId
  shi : Option BusId
  slo : Option BusId
  responseTimeout : BitVec 16
  triggerWidth : Byte
  rdyFilter : Byte
  sourceCapable : Bool
  deriving DecidableEq, Repr

/-- An instrument record after power-on reset (R44). -/
def InstrRecord.powerOn : InstrRecord :=
  { enable := false, hi := none, lo := none, shi := none, slo := none, responseTimeout := 1000, triggerWidth := 10,
    rdyFilter := 4, sourceCapable := false }

/-! ### Routes (R50, R51, R52) -/

structure RouteDef where
  inst : InstrId
  terminal : Terminal
  nodes : List Nat
  settle : BitVec 16
  deriving DecidableEq, Repr

inductive RouteState where
  | making | made | breaking | faulted
  deriving DecidableEq, Repr

/-- An entry in use of the live route list. -/
structure LiveRoute where
  site : SiteId
  definition : Byte
  inst : InstrId
  terminal : Terminal
  bus : BusId
  nodes : List Nat
  settle : BitVec 16
  state : RouteState
  pendingPass : Bool
  timer : Option Timer
  madeAt : Option Time
  zero : Option Int
  deriving DecidableEq, Repr

/-- What the node map holds for a claimed node. -/
structure NodeClaim where
  bus : BusId
  entry : EntryId
  deriving DecidableEq, Repr

/-! ### The relay chain (R77, R79, R88) -/

/-- A set of crosspoints, card by card: bit 32 × bus + (node − 32 × card) of card's word (the order of R78). -/
abbrev Matrix := Vector (BitVec 512) 16

/-- No crosspoint. -/
def Matrix.allOpen : Matrix := .replicate 16 0

inductive CardState where
  | absent | active | fault
  deriving DecidableEq, Repr

inductive CardCause where
  | readback | lost
  deriving DecidableEq, Repr

structure Card where
  state : CardState
  id : Option Byte
  operate : Byte
  release : Byte
  threshold : BitVec 24
  faultCount : Byte
  firstCause : Option CardCause
  relearn : Bool
  latched : BitVec 512
  deriving DecidableEq, Repr

/-- A card table entry after power-on reset (R77). -/
def Card.powerOn : Card :=
  { state := .absent, id := none, operate := 20, release := 10, threshold := 0, faultCount := 0, firstCause := none,
    relearn := false, latched := 0 }

inductive ChainPhase where
  | idle | discovery | shift | latch | verify
  deriving DecidableEq, Repr

/-- The chain controller. `cursor` is the position from which the next write or read frame is sent, `noted` the closings
noted at the pass's latch, `lastWrite` the last write frame given to CHDO. -/
structure Chain where
  cards : Vector Card 16
  phase : ChainPhase
  dirty : Bool
  passDue : Bool
  snapshot : Matrix
  verifySet : BitVec 16
  passNumber : BitVec 32
  cursor : Nat
  noted : Matrix
  interval : Byte
  refresh : Option Timer
  lastWrite : Option (CardId × BitVec 512)
  deriving DecidableEq, Repr

/-- The chain controller after power-on reset: discovery, refresh interval 50 ms (R79, R88). -/
def Chain.powerOn : Chain :=
  { cards := .replicate 16 .powerOn, phase := .discovery, dirty := false, passDue := false, snapshot := .allOpen,
    verifySet := 0, passNumber := 0, cursor := 0, noted := .allOpen, interval := 50, refresh := some ⟨0, 50000⟩,
    lastWrite := none }

/-! ### Instrument ports (R103, R113, R118) -/

inductive PortState where
  | disabled | offline | idle | command | triggered | fetching
  deriving DecidableEq, Repr

inductive Awaited where
  | hello | config | outputOn | outputOff | read | cancel
  deriving DecidableEq, Repr

inductive PortUser where
  | site (n : SiteId)
  | teardown (n : SiteId)
  | bringUp
  | softReset
  deriving DecidableEq, Repr

inductive SourceState where
  | off | on | unknown
  deriving DecidableEq, Repr

inductive PortFailure where
  | timeout | checksum
  deriving DecidableEq, Repr

/-- Where a port goes when its CANCEL has left the line (R105, R107). -/
inductive CancelEnd where
  | idle
  | lost (failure : PortFailure)
  | noAnswer
  deriving DecidableEq, Repr

inductive QuietOutcome where
  | acked | naked | timedOut | notSent
  deriving DecidableEq, Repr

inductive PortCounter where
  | timeout | checksum | nak | stale | lostLink
  deriving DecidableEq, Repr

structure PortCounters where
  timeout : Byte
  checksum : Byte
  nak : Byte
  stale : Byte
  lostLink : Byte
  first : Option PortCounter
  deriving DecidableEq, Repr

def PortCounters.clear : PortCounters := ⟨0, 0, 0, 0, 0, none⟩

structure IdentFields where
  type : Byte
  revision : Byte
  serial : BitVec 32
  deriving DecidableEq, Repr

/-- The port record. Beside the fields of R103: the raw RDY level and the reading of its latest change (R110), the running
trigger pulse (of joined pulses the one that ends last), the mark and the stamps of the trigger cycle (R111), the spacing
wait between two samples (R112), the fields of a CONFIG in flight (R106), the end of a CANCEL in flight (R107), a teardown's
source-off waiting for the port and an outcome not yet taken at the runner (R117, R180), the bytes of a partly received
message (R100) and the bytes of the message last given to PnTXD. -/
structure Port where
  state : PortState
  awaited : Option Awaited
  user : Option PortUser
  seq : Byte
  outstanding : Option Byte
  respTimer : Option Timer
  probeTimer : Option Timer
  source : SourceState
  failures : Nat
  lastConfig : Option ConfigFields
  lastIdent : Option IdentFields
  lastNak : Option Byte
  filteredRdy : Bool
  counters : PortCounters
  rawRdy : Bool
  rdyChange : Time
  pulse : Option Timer
  mark : Bool
  triggerStamp : Time
  readyStamp : Time
  spacing : Option (SiteId × Timer)
  sentConfig : Option ConfigFields
  cancelEnd : CancelEnd
  sourceOffFor : Option SiteId
  quietReport : Option (SiteId × QuietOutcome)
  rxBytes : List Byte
  lastSent : List Byte
  deriving DecidableEq, Repr

/-- A port after power-on reset, its RDY pin at the level given (R103, R110). -/
def Port.powerOn (rdy : Bool) : Port :=
  { state := .disabled, awaited := none, user := none, seq := 0, outstanding := none, respTimer := none,
    probeTimer := none, source := .off, failures := 0, lastConfig := none, lastIdent := none, lastNak := none,
    filteredRdy := false, counters := .clear, rawRdy := rdy, rdyChange := 0, pulse := none, mark := false,
    triggerStamp := 0, readyStamp := 0, spacing := none, sentConfig := none, cancelEnd := .idle, sourceOffFor := none,
    quietReport := none, rxBytes := [], lastSent := [] }

/-! ### Calibration and limits (R121, R123) -/

structure CalEntry where
  offset : Int
  gain : Nat
  unitCode : Byte
  valid : Bool
  deriving DecidableEq, Repr

/-- A calibration entry after power-on reset (R121). -/
def CalEntry.powerOn : CalEntry := ⟨0, 4194304, 0, false⟩

/-- The fields of a limit set that belong to REL, as an ABS set stores them (R123). -/
structure RelFields where
  reference : Byte
  below : BitVec 16
  above : BitVec 16
  deriving DecidableEq, Repr

/-- The fields of a limit set that belong to ABS, as a REL set stores them (R123). -/
structure AbsFields where
  low : BitVec 32
  high : BitVec 32
  deriving DecidableEq, Repr

/-- A loaded limit set: the fields of its kind, and those of the other kind, stored as loaded and not used; a set of kind
NONE is an empty place of the table. -/
inductive LimitSet where
  | abs (low high : Int) (guard : Nat) (unused : RelFields)
  | rel (reference : Fin 8) (below above : Nat) (guard : Nat) (unused : AbsFields)
  deriving DecidableEq, Repr

/-! ### The result queue (R144, R146, R149) -/

structure SampleRecord where
  zero : Bool
  seq : BitVec 32
  site : SiteId
  runNumber : BitVec 16
  step : Option StepRef
  tag : BitVec 16
  inst : InstrId
  range : Fin 8
  unitCode : Byte
  result : Judged
  taken : Nat
  firstTrigger : Time
  conversion : Time
  deriving DecidableEq, Repr

structure RunEndRecord where
  seq : BitVec 32
  site : SiteId
  runNumber : BitVec 16
  cause : Option Cause
  errorCode : Option StepError
  step : Option StepRef
  passCount : BitVec 32
  marginCount : BitVec 32
  failCount : BitVec 32
  noJudgeCount : BitVec 32
  stepsTaken : BitVec 32
  worst : Option Worst
  verdict : Verdict
  hot : Bool
  start : Time
  duration : Time
  deriving DecidableEq, Repr

inductive ResultRecord where
  | sample (r : SampleRecord)
  | runEnd (r : RunEndRecord)
  deriving DecidableEq, Repr

/-- The result queue; the free count is a view (R146). -/
structure ResultQueue where
  posted : List ResultRecord
  seq : BitVec 32
  space : List SiteId
  deriving DecidableEq, Repr

def ResultQueue.empty : ResultQueue := ⟨[], 0, []⟩

/-! ### The fixture monitor (R158, R163, R165, R174) -/

inductive EdgeSelect where
  | press | release
  deriving DecidableEq, Repr

/-- One input line; levels are true for high, and `active` is its state as last accepted (R158, R160). -/
structure InputLine where
  filter : Byte
  polarity : Bool
  edge : EdgeSelect
  raw : Bool
  lastChange : Time
  filtered : Bool
  active : Bool
  latchActive : Bool
  latchInactive : Bool
  deriving DecidableEq, Repr

/-- An input line after power-on reset, its pin at the level given: filter 10 ms, polarity LOW, edge PRESS (R158). -/
def InputLine.powerOn (pin : Bool) : InputLine :=
  { filter := 10, polarity := false, edge := .press, raw := pin, lastChange := 0, filtered := pin, active := !pin,
    latchActive := false, latchInactive := false }

structure IdentityHeader where
  format : Byte
  type : BitVec 16
  serial : BitVec 32
  revision : Byte
  siteCount : Byte
  deriving DecidableEq, Repr

structure Window where
  base : Nat
  size : Nat
  deriving DecidableEq, Repr

/-- The identity held: the header fields, and the windows with the stored CRC when the BODY was read (R163, R169). -/
structure Identity where
  header : IdentityHeader
  body : Option (List Window × BitVec 16)
  deriving DecidableEq, Repr

inductive FixtureState where
  | noIdentity | loading | valid | invalid | emulated
  deriving DecidableEq, Repr

inductive LoadStep where
  | waiting | header | body
  deriving DecidableEq, Repr

inductive LoadCause where
  | noAck | format | count | crc | window
  deriving DecidableEq, Repr

inductive Owner where
  | monitor | link
  deriving DecidableEq, Repr

inductive EngineCommand where
  | read | write | loadHeader | loadBody
  deriving DecidableEq, Repr

inductive EngineError where
  | noAck | range
  deriving DecidableEq, Repr

/-- What the engine does on the fixture memory bus, in order (R174): a start, a stop, a byte it sends, and whether it
acknowledges a byte it collects. -/
inductive BusItem where
  | start
  | stop
  | byte (b : Byte)
  | ack (given : Bool)
  deriving DecidableEq, Repr

/-- The FIXMEM transfer in progress: a read, a write of data bytes, or the polls of its write cycle (R174, R176). -/
inductive Transfer where
  | read (length : Nat)
  | write (length : Nat)
  | poll (length : Nat) (polls : Nat) (timer : Timer)
  deriving DecidableEq, Repr

/-- The fixture identity part of the monitor and the fixture memory engine. `headerBytes` are the nine bytes that the load
in step BODY has read (R168). `sent` is what the engine has done on the bus since it last became BUSY; for the transfer in
progress it runs on to the last byte the engine sends before it collects data or ends (R174; notes/assumptions/45). -/
structure Fixture where
  state : FixtureState
  held : Option Identity
  loadStep : Option LoadStep
  loadCause : Option LoadCause
  headerBytes : List Byte
  busy : Bool
  owner : Owner
  lastCommand : Option (EngineCommand × Nat × Nat)
  error : Option EngineError
  transfer : Option Transfer
  sent : List BusItem
  deriving DecidableEq, Repr

/-- The monitor after power-on reset, before the initial state of LID is looked at (R165, R174). -/
def Fixture.powerOn : Fixture :=
  { state := .noIdentity, held := none, loadStep := none, loadCause := none, headerBytes := [], busy := false,
    owner := .monitor, lastCommand := none, error := none, transfer := none, sent := [] }

/-! ### The safety controller (R186) -/

inductive SafeCause where
  | lid | link | request
  deriving DecidableEq, Repr

structure SafeSet where
  lid : Bool
  link : Bool
  request : Bool
  deriving DecidableEq, Repr

/-! ### The host link (R191–R198) -/

inductive LinkCounter where
  | crc | length | fragment | overrun | noticeLost
  deriving DecidableEq, Repr

structure LinkCounters where
  crc : Byte
  length : Byte
  fragment : Byte
  overrun : Byte
  noticeLost : Byte
  first : Option LinkCounter
  deriving DecidableEq, Repr

def LinkCounters.clear : LinkCounters := ⟨0, 0, 0, 0, 0, none⟩

/-- A counter of the WATCHDOG group: WATCHDOG_EXPIRY, or the STEP_EXPIRY of a site (R198). -/
inductive WatchdogCounter where
  | link
  | site (n : SiteId)
  deriving DecidableEq, Repr

structure WatchdogCounters where
  expiry : Byte
  stepExpiry : Vector Byte 8
  first : Option WatchdogCounter
  deriving DecidableEq, Repr

def WatchdogCounters.clear : WatchdogCounters := ⟨0, .replicate 8 0, none⟩

/-- A request whose reply comes after the event that took it, or SOFT_RESET until its effect (R194, R201). -/
inductive InProgress where
  /-- a FIXMEM_READ or FIXMEM_WRITE whose transfer runs; its KIND and TAG -/
  | fixmem (kind tag : Byte)
  /-- SOFT_RESET whose reply is still queued -/
  | softReset
  /-- SOFT_RESET whose reply has left HTXD: its effect is due (R201) -/
  | softResetDue
  deriving DecidableEq, Repr

/-- The host link. `rxBytes` are the bytes of the frame being received (SYNC first; none while hunting) and `rxLast` the
reading at the latest of them (R192). -/
structure Link where
  rxBytes : List Byte
  rxLast : Time
  rx : List Frame
  tx : List Frame
  inProgress : Option InProgress
  counters : LinkCounters
  watchdogs : WatchdogCounters
  limit : BitVec 16
  watchdog : Option Timer
  rateCode : Fin 4
  deriving DecidableEq, Repr

/-- The host link after power-on reset under the strapped rate (R192–R198, R204). -/
def Link.powerOn (rate : Fin 4) : Link :=
  { rxBytes := [], rxLast := 0, rx := [], tx := [], inProgress := none, counters := .clear, watchdogs := .clear,
    limit := 0, watchdog := none, rateCode := rate }

/-! ### The model's agenda -/

/-- What a site whose step has ended does next in the same event: take the slot selected (R14), or enter TEARDOWN (R14,
R20, R143). -/
inductive Todo where
  | take (slot : Nat)
  | enter (cause : Cause) (error : Option StepError)
  deriving DecidableEq, Repr

end Sys2Proof.Machine
end

