-- ==== Sys2Proof/Machine/Arithmetic.lean ====
section
/-! DEFINITION. The arithmetic of the acquisition unit, to the last unit: one sample (R129–R132), the reduction (R133), the
judgement (R134, R135) and the zero's acceptance (R142). -/

namespace Sys2Proof.Machine

/-- The quotient rounded to the nearest integer, ties away from zero (R130). -/
def roundDiv (a : Int) (b : Nat) : Int :=
  let q : Nat := (2 * a.natAbs + b) / (2 * b)
  if a < 0 then -(q : Int) else (q : Int)

/-- Offset and gain as an entry is used: an invalid one with 0 and 4,194,304 (R121). -/
def CalEntry.used (e : CalEntry) : Int × Nat := if e.valid then (e.offset, e.gain) else (0, 4194304)

/-- Stages 2 and 3: the difference and the scaling (R130). -/
def calibrate (e : CalEntry) (r : Int) : Int := roundDiv ((r - e.used.1) * (e.used.2 : Int)) 4194304

/-- Stage 1: the sign of an overrange (true negative), or none (R129). `flagged` and `sign` are the VALUE status bits. -/
def overrangeOf (r : Int) (flagged sign : Bool) : Option Bool :=
  if r = 8388607 ∨ r = -8388608 ∨ flagged then some (if r = 0 then sign else decide (r < 0)) else none

/-- Stage 5 (R132). -/
def accumulate (m : Measure) (v : Int) : Measure :=
  { m with
    sum := m.sum + v
    minimum := some (match m.minimum with | some x => if v < x then v else x | none => v)
    maximum := some (match m.maximum with | some x => if x < v then v else x | none => v) }

/-- What a sample adds to a context before its code is tested (R129): the count, the first trigger, the last conversion,
the unit code and the UNCAL mark. -/
def countSample (m : Measure) (e : CalEntry) (trigger conversion : Time) : Measure :=
  { m with
    taken := m.taken + 1
    firstTrigger := if m.taken = 0 then trigger else m.firstTrigger
    lastConversion := conversion
    unitCode := e.unitCode
    uncal := m.uncal || !e.valid }

/-- One sample taken into a context (R129–R132), for a step whose require-zero flag is `requireZero`. -/
def addSample (m : Measure) (e : CalEntry) (requireZero : Bool) (r : Int) (flagged sign : Bool) (trigger conversion : Time) :
    Measure :=
  let m := countSample m e trigger conversion
  match overrangeOf r flagged sign with
  | some negative => { m with overrange := some negative }
  | none =>
    match m.zero with
    | some z => accumulate m (calibrate e r - z)
    | none => if requireZero then { m with noZero := true } else accumulate m (calibrate e r)

/-- The measurement has been stopped by its latest sample (R128). -/
def Measure.stopped (m : Measure) : Bool := m.overrange.isSome || m.noZero

/-- The reduction of the samples (R133). -/
def reduce (mode : ReduceMode) (m : Measure) : Int :=
  match mode with
  | .mean => roundDiv m.sum m.taken
  | .min => m.minimum.getD 0
  | .max => m.maximum.getD 0
  | .span => min (m.maximum.getD 0 - m.minimum.getD 0) 134217727

/-- The measured value (R133). -/
def measuredValue (mode : ReduceMode) (m : Measure) : Int :=
  match m.overrange with
  | some negative => if negative then -134217727 else 134217727
  | none => if m.noZero then 0 else reduce mode m

/-- The limits of a set, or none when a REL set meets an invalid reference (R134). -/
def limitsOf (vars : Vector Variable 8) : LimitSet → Option (Int × Int × Nat)
  | .abs low high guard _ => some (low, high, guard)
  | .rel reference below above guard _ =>
    let ref := vars[reference]
    if ref.valid then
      some (ref.value - roundDiv ((ref.value.natAbs : Int) * below) 10000,
            ref.value + roundDiv ((ref.value.natAbs : Int) * above) 10000, guard)
    else none

/-- The four tests of R135. -/
def binOf (lo hi : Int) (guard : Nat) (v : Int) : Bin :=
  if v < lo then .failLow
  else if hi < v then .failHigh
  else if v < lo + guard ∨ hi - guard < v then .margin
  else .pass

/-- The bin of a MEASURE and its NOREF flag (R134, R135); `limit` is none for a step that names no limit set. -/
def judgeValue (vars : Vector Variable 8) (limit : Option LimitSet) (noZero : Bool) (v : Int) : Bin × Bool :=
  if noZero then (.invalid, false)
  else
    match limit with
    | none => (.noJudge, false)
    | some set =>
      match limitsOf vars set with
      | none => (.invalid, true)
      | some (lo, hi, guard) => (binOf lo hi guard v, false)

/-- The result of a MEASURE (R133–R136). -/
def measureResult (vars : Vector Variable 8) (limit : Option LimitSet) (mode : ReduceMode) (manual : Bool) (m : Measure) :
    Judged :=
  let v := measuredValue mode m
  let b := judgeValue vars limit m.noZero v
  { value := v, bin := b.1, ovr := m.overrange.isSome, uncal := m.uncal, noZero := m.noZero, noRef := b.2,
    manual := manual }

/-- A zero is accepted (R142). -/
def zeroAccepted (m : Measure) (v : Int) : Bool := m.overrange.isNone && decide (v.natAbs ≤ 67108848)

/-- The result of a ZERO (R142). -/
def zeroResult (manual : Bool) (m : Measure) : Judged :=
  let v := measuredValue .mean m
  { value := v, bin := if zeroAccepted m v then .noJudge else .invalid, ovr := m.overrange.isSome, uncal := m.uncal,
    noZero := false, noRef := false, manual := manual }

end Sys2Proof.Machine
end

