-- ==== Sys2Proof/Config.lean ====
section
/-! DEFINITION. What the spec leaves open as a value (free values: no body, nothing can evaluate them), and the one bound
the model fixes for itself. -/

namespace Sys2Proof

/-- The enumerations that replies and notices carry as one-byte codes and to which the spec assigns no numbers (it gives
numbers for bins, verdicts, causes, error codes, step kinds, terminals and record kinds only). -/
inductive CodeField where
  | siteState | phase | waitReason | teardownPhase | origin | measurePhase
  | portState | awaited | portUser | sourceState | portCause | portFailure | portCounter
  | routeState | cardState | cardCause | chainPhase
  | fixtureState | loadStep | loadCause | memoryOwner | engineState | engineCommand | engineError
  | safeCauses | safeCause | safeDirection | lineKind | lineState | lineLevel
  | stepOutcome | linkCounter | watchdogCounter
  deriving DecidableEq, Repr

/-- FREE VALUE (notes/assumptions/4): the code byte of the n-th name of an enumeration for which the spec gives no
number. -/
opaque Config.code : CodeField → Nat → Byte

/-- FREE VALUE (notes/assumptions/5): what a PASS, MARGIN, FAIL or NOJUDGE run counter (R1: "32-bit each") holds after an
increase at its largest value; the spec calls only the steps-taken count saturating. The argument is the model's free-value
counter. -/
opaque Config.runCountPastMax : Nat → BitVec 32

/-- DESIGN CHOICE (notes/assumptions/6): how many selected steps one command takes before the rest of an endless chain of
instantaneous steps is left in State for the next step of the machine. -/
def Config.stepsPerEvent : Nat := 4096

end Sys2Proof
end

