-- ==== Sys2Proof/Machine/Flags.lean ====
section
/-! DEFINITION. Flags, counters and timers: saturating counters (R198), the flag masks of SIGNAL, WAIT_FLAG, FLAG_RAISE and
FLAG_CLEAR (R17, R18, R21), the worst bin (R138), the verdict (R149), the safe cause set (R186) and when a timer has run
(R32). -/

namespace Sys2Proof.Machine

/-! ### Timers -/

/-- The elapsed time of a timer at a reading, modulo 2^32. -/
def Timer.elapsed (t : Timer) (now : Time) : Nat := (now - t.start).toNat

/-- The timer has expired: the elapsed time is at least the duration. -/
def Timer.expired (t : Timer) (now : Time) : Bool := decide (t.duration ≤ t.elapsed now)

/-- The time left, in µs. -/
def Timer.remaining (t : Timer) (now : Time) : Nat := t.duration - t.elapsed now

/-- The first reading at which the timer has expired. -/
def Timer.expiry (t : Timer) : Time := t.start + BitVec.ofNat 32 t.duration

/-- Of a timer and one that may run already, the one that ends later. -/
def Timer.orLater (t : Timer) (running : Option Timer) (now : Time) : Timer :=
  match running with
  | some u => if t.remaining now < u.remaining now then u else t
  | none => t

/-- The time left of a timer that may not run: 0 when it does not, as R25 and R197 say of the watchdogs. DESIGN CHOICE: 0 also
for the refresh timer stopped by interval 0, of which R88, R90 and R98 say nothing (notes/assumptions/42). -/
def remainingOf (t : Option Timer) (now : Time) : Nat :=
  match t with
  | some t => t.remaining now
  | none => 0

def expiredOption (t : Option Timer) (now : Time) : Bool :=
  match t with
  | some t => t.expired now
  | none => false

/-- A timer of a limit in ms; a limit of 0 stops it (R25, R88, R197). -/
def limitTimer (now : Time) (ms : Nat) : Option Timer := if ms = 0 then none else some ⟨now, ms * 1000⟩

/-! ### Saturating counters -/

/-- An 8-bit counter increased, saturating at 255. -/
def sat8 (c : Byte) : Byte := if c = 255 then c else c + 1

/-- A 32-bit counter increased, saturating at 4,294,967,295. -/
def sat32 (c : BitVec 32) : BitVec 32 := if c = 4294967295 then c else c + 1

/-- One counter of the LINK group increased; the first increase after a clear is the first cause (R198). -/
def LinkCounters.bump (c : LinkCounters) (k : LinkCounter) : LinkCounters :=
  let c := { c with first := some (c.first.getD k) }
  match k with
  | .crc => { c with crc := sat8 c.crc }
  | .length => { c with length := sat8 c.length }
  | .fragment => { c with fragment := sat8 c.fragment }
  | .overrun => { c with overrun := sat8 c.overrun }
  | .noticeLost => { c with noticeLost := sat8 c.noticeLost }

/-- One counter of the WATCHDOG group increased (R198). -/
def WatchdogCounters.bump (c : WatchdogCounters) (k : WatchdogCounter) : WatchdogCounters :=
  let c := { c with first := some (c.first.getD k) }
  match k with
  | .link => { c with expiry := sat8 c.expiry }
  | .site n => { c with stepExpiry := c.stepExpiry.set n (sat8 c.stepExpiry[n]) }

/-- One counter of a port increased (R118). -/
def PortCounters.bump (c : PortCounters) (k : PortCounter) : PortCounters :=
  let c := { c with first := some (c.first.getD k) }
  match k with
  | .timeout => { c with timeout := sat8 c.timeout }
  | .checksum => { c with checksum := sat8 c.checksum }
  | .nak => { c with nak := sat8 c.nak }
  | .stale => { c with stale := sat8 c.stale }
  | .lostLink => { c with lostLink := sat8 c.lostLink }

/-! ### In-flags and out-flags -/

/-- The mask of a WAIT_FLAG is satisfied (R18). -/
def maskSatisfied (mode : FlagMode) (mask flags : Byte) : Bool :=
  match mode with
  | .any => flags &&& mask != 0
  | .all => flags &&& mask == mask

/-- The in-flags after a WAIT_FLAG completes: those its mask matched are cleared (R18). In mode ANY these are the named
flags that are set, in mode ALL every named flag: the same bits either way. -/
def clearMatched (mask flags : Byte) : Byte := flags &&& ~~~mask

/-! ### Bins, worst bin and verdict -/

/-- The bins whose MEASURE is a judged fail (R136). -/
def Bin.isFail : Bin → Bool
  | .failLow | .failHigh | .invalid => true
  | .pass | .margin | .noJudge => false

/-- The worst-bin rank of a bin; NOJUDGE has none (R136). -/
def Bin.rank : Bin → Option Worst
  | .pass => some .pass
  | .margin => some .margin
  | .failLow | .failHigh | .invalid => some .fail
  | .noJudge => none

def worstOrder : Option Worst → Nat
  | none => 0
  | some .pass => 1
  | some .margin => 2
  | some .fail => 3

/-- The worst bin raised to a rank when that rank is worse (R138). -/
def raiseWorst (old new : Option Worst) : Option Worst := if worstOrder old < worstOrder new then new else old

/-- The verdict of a run (R149). -/
def verdictOf (cause : Option Cause) (worst : Option Worst) : Verdict :=
  match cause, worst with
  | some .complete, some .fail => .fail
  | some .complete, some .margin => .margin
  | some .complete, _ => .pass
  | _, _ => .aborted

/-! ### The safe cause set -/

def SafeSet.holds (s : SafeSet) : Bool := s.lid || s.link || s.request

def SafeSet.has (s : SafeSet) : SafeCause → Bool
  | .lid => s.lid
  | .link => s.link
  | .request => s.request

def SafeSet.assign (s : SafeSet) (present : Bool) : SafeCause → SafeSet
  | .lid => { s with lid := present }
  | .link => { s with link := present }
  | .request => { s with request := present }

/-- The teardown cause that belongs to a safe cause (R187). -/
def orderCause : SafeCause → Cause
  | .lid => .lid
  | .link => .linkWatchdog
  | .request => .safeRequest

end Sys2Proof.Machine
end

