-- ==== Sys2Proof/Machine/Lines.lean ====
section
/-! DEFINITION. Bytes on the serial lines: packing of fields (R194), the CRC (R163), frames of the host line (R191, R192),
messages of the instrument ports (R100) and the hunt that both receivers make. -/

namespace Sys2Proof.Machine

/-! ### Packing: least significant byte first (R194, Formats) -/

def u8 (n : Nat) : List Byte := [BitVec.ofNat 8 n]

def le16 (n : Nat) : List Byte := [BitVec.ofNat 8 n, BitVec.ofNat 8 (n / 256)]

def le24 (n : Nat) : List Byte := [BitVec.ofNat 8 n, BitVec.ofNat 8 (n / 256), BitVec.ofNat 8 (n / 65536)]

def le32 (n : Nat) : List Byte :=
  [BitVec.ofNat 8 n, BitVec.ofNat 8 (n / 256), BitVec.ofNat 8 (n / 65536), BitVec.ofNat 8 (n / 16777216)]

/-- A signed value of four bytes, two's complement. -/
def le32i (i : Int) : List Byte := le32 (i % 4294967296).toNat

/-- A signed value of three bytes, two's complement. -/
def le24i (i : Int) : List Byte := le24 (i % 16777216).toNat

/-- A flag takes one byte, 1 for set. -/
def flagByte (b : Bool) : List Byte := [if b then 1 else 0]

/-- An absent option takes the all-ones value of its field (R194): `width` bytes of 0xFF. -/
def absent (width : Nat) : List Byte := List.replicate width 0xFF

/-- An optional field of `width` bytes. -/
def packOption {α : Type} (width : Nat) (pack : α → List Byte) : Option α → List Byte
  | some a => pack a
  | none => absent width

/-- A list in a field of `places` one-byte places; the places beyond the list hold 0xFF (notes/assumptions/8). -/
def packList {α : Type} (places : Nat) (code : α → Nat) (xs : List α) : List Byte :=
  (xs.take places).map (fun a => BitVec.ofNat 8 (code a)) ++ absent (places - xs.length)

def read16 (a b : Byte) : Nat := a.toNat + 256 * b.toNat

def read24 (a b c : Byte) : Nat := a.toNat + 256 * b.toNat + 65536 * c.toNat

def read32 (a b c d : Byte) : Nat := a.toNat + 256 * b.toNat + 65536 * c.toNat + 16777216 * d.toNat

/-- Two's complement of a 32-bit field. -/
def signed32 (n : Nat) : Int := (BitVec.ofNat 32 n).toInt

/-- Two's complement of a 24-bit field. -/
def signed24 (n : Nat) : Int := (BitVec.ofNat 24 n).toInt

/-- `count` records of `size` bytes each. -/
def chunks (size : Nat) : Nat → List Byte → List (List Byte)
  | 0, _ => []
  | count + 1, bs => bs.take size :: chunks size count (bs.drop size)

/-! ### The CRC (R163): register 0xFFFF, most significant bit first, polynomial 0x1021, no final inversion -/

def crcShift (r : BitVec 16) : BitVec 16 :=
  if r.getLsbD 15 then (r <<< 1) ^^^ 0x1021 else r <<< 1

def crcByte (r : BitVec 16) (b : Byte) : BitVec 16 :=
  (List.range 8).foldl (fun r _ => crcShift r) (r ^^^ (b.zeroExtend 16 <<< 8))

def crc16 (bs : List Byte) : BitVec 16 := bs.foldl crcByte 0xFFFF

/-- The CRC as it is sent and stored, high byte first. -/
def crcBytes (bs : List Byte) : List Byte :=
  [BitVec.ofNat 8 ((crc16 bs).toNat / 256), BitVec.ofNat 8 (crc16 bs).toNat]

/-! ### The hunt of a receiver (R100, R192) -/

/-- What a receiver makes of the bytes from a start byte on: they are not complete; they are dropped, and the hunt goes on
at the byte after the start byte; or they are a message of `length` bytes. -/
inductive Verdict1 (α : Type) where
  | more
  | drop (event : α)
  | whole (event : α) (length : Nat)

/-- Examine the bytes in order; `skip` of them belong to a message already taken. The answer is the events found, and the
bytes of the message still incomplete. -/
def hunt {α : Type} (start : Byte) (judge : List Byte → Verdict1 α) : List Byte → Nat → List α × List Byte
  | [], _ => ([], [])
  | _ :: rest, skip + 1 => hunt start judge rest skip
  | b :: rest, 0 =>
    if b = start then
      match judge (b :: rest) with
      | .more => ([], b :: rest)
      | .drop e => (e :: (hunt start judge rest 0).1, (hunt start judge rest 0).2)
      | .whole e n => (e :: (hunt start judge rest (n - 1)).1, (hunt start judge rest (n - 1)).2)
    else hunt start judge rest 0

/-! ### Frames of the host line (R191, R192) -/

/-- The bytes of a frame that the CRC covers. -/
def frameCore (f : Frame) : List Byte := le16 f.body.length ++ [f.kind, f.tag] ++ f.body

/-- The bytes of a frame on the line. -/
def frameBytes (f : Frame) : List Byte := [0xA5] ++ frameCore f ++ crcBytes (frameCore f)

/-- What the link's receiver finds: a good frame, a LENGTH above 1,024, or a CRC that differs. -/
inductive LinkEvent where
  | good (f : Frame)
  | badLength
  | badCrc
  deriving DecidableEq, Repr

/-- The three tests of R192 but the gap, on the bytes from a SYNC on. -/
def judgeFrame : List Byte → Verdict1 LinkEvent
  | _ :: l0 :: l1 :: rest =>
    let length := read16 l0 l1
    if 1024 < length then .drop .badLength
    else
      match rest with
      | kind :: tag :: tail =>
        if tail.length < length + 2 then .more
        else
          let f : Frame := ⟨kind, tag, tail.take length⟩
          if (tail.drop length).take 2 = crcBytes (frameCore f) then .whole (.good f) (length + 7)
          else .drop .badCrc
      | _ => .more
  | _ => .more

/-- The host link's receiver over the bytes held and the bytes that arrive. -/
def huntFrames (bs : List Byte) : List LinkEvent × List Byte := hunt 0xA5 judgeFrame bs 0

/-! ### Messages of the instrument ports (R100) -/

/-- A message of a port, either direction. -/
structure PortMessage where
  kind : Byte
  seq : Byte
  body : List Byte
  deriving DecidableEq, Repr

def byteSum (bs : List Byte) : Byte := bs.foldl (· + ·) 0

def messageCore (m : PortMessage) : List Byte := [m.kind, m.seq] ++ u8 m.body.length ++ m.body

/-- The bytes of a message on the line: start, kind, sequence, length, body and the two's complement checksum. -/
def messageBytes (m : PortMessage) : List Byte := [0x5A] ++ messageCore m ++ [-(byteSum (messageCore m))]

/-- What a port's receiver finds: a sound message, or one that is complete and not sound. -/
inductive PortEvent where
  | sound (m : PortMessage)
  | badChecksum
  deriving DecidableEq, Repr

def judgeMessage : List Byte → Verdict1 PortEvent
  | _ :: kind :: seq :: length :: tail =>
    if tail.length < length.toNat + 1 then .more
    else
      let m : PortMessage := ⟨kind, seq, tail.take length.toNat⟩
      if byteSum ([kind, seq, length] ++ tail.take (length.toNat + 1)) = 0 then .whole (.sound m) (length.toNat + 5)
      else .drop .badChecksum
  | _ => .more

/-- A port's receiver over the bytes held and the bytes that arrive. -/
def huntMessages (bs : List Byte) : List PortEvent × List Byte := hunt 0x5A judgeMessage bs 0

end Sys2Proof.Machine
end

