-- ==== Sys2Proof/Machine/Operands.lean ====
section
/-! DEFINITION. Operand forms: every record that a request body carries, read from its bytes and written back (R9, R11, R44,
R52, R121, R123, R163, Formats), and the result records as FETCH sends them. `none` from a reader is a value outside its
range (BAD_VALUE). -/

namespace Sys2Proof.Machine

/-! ### Single fields -/

def readSite (b : Byte) : Option SiteId := if h : b.toNat < 8 then some ⟨b.toNat, h⟩ else none

def readInst (b : Byte) : Option InstrId := if h : b.toNat < 6 then some ⟨b.toNat, h⟩ else none

def readCard (b : Byte) : Option CardId := if h : b.toNat < 16 then some ⟨b.toNat, h⟩ else none

/-- An index 0–7: a site variable or a range. -/
def readIndex8 (b : Byte) : Option (Fin 8) := if h : b.toNat < 8 then some ⟨b.toNat, h⟩ else none

/-- A flag or a two-valued code: 0 or 1; another byte is outside its range (R196; notes/assumptions/9). -/
def readFlag (b : Byte) : Option Bool := if b = 0 then some false else if b = 1 then some true else none

/-- A bus 0–15, or 0xFF for none (R44, R194). -/
def readBus (b : Byte) : Option (Option BusId) :=
  if b = 0xFF then some none
  else if h : b.toNat < 16 then some (some ⟨b.toNat, h⟩) else none

def readTerminal (b : Byte) : Option Terminal :=
  match b.toNat with
  | 0 => some .hi
  | 1 => some .lo
  | 2 => some .shi
  | 3 => some .slo
  | _ => none

def terminalCode : Terminal → Nat
  | .hi => 0
  | .lo => 1
  | .shi => 2
  | .slo => 3

def readMode (b : Byte) : Option ReduceMode :=
  match b.toNat with
  | 0 => some .mean
  | 1 => some .min
  | 2 => some .max
  | 3 => some .span
  | _ => none

def modeCode : ReduceMode → Nat
  | .mean => 0
  | .min => 1
  | .max => 2
  | .span => 3

/-! ### Step records (R9, R11; 20 bytes) -/

/-- `next`: a slot 0–2,047 or END 0xFFFE. -/
def readNext (lo hi : Byte) : Option Next :=
  let n := read16 lo hi
  if n < 2048 then some (.slot n) else if n = 0xFFFE then some .chainEnd else none

/-- `on_fail`: as `next`, or absent 0xFFFF. -/
def readOnFail (lo hi : Byte) : Option (Option Next) :=
  if read16 lo hi = 0xFFFF then some none else (readNext lo hi).map some

def nextCode : Next → Nat
  | .slot n => n
  | .chainEnd => 0xFFFE

/-- The store variable of a MEASURE: named only when option bit 4 is set. -/
def readStore (named : Bool) (b : Byte) : Option (Option (Fin 8)) :=
  if named then (readIndex8 b).map some else some none

/-- Samples 1–256. -/
def readSamples (lo hi : Byte) : Option Nat :=
  let n := read16 lo hi
  if 1 ≤ n ∧ n ≤ 256 then some n else none

/-- The kind fields, from offset 7 on, of a step record of kind `kind`. -/
def readStepKind (kind : Byte) : List Byte → Option StepKind
  | [b7, b8, b9, b10, b11, b12, b13, b14, b15, b16, b17, _, _] =>
    match kind.toNat with
    | 0x01 => (readInst b7).map .acquire
    | 0x02 => (readInst b7).map .release
    | 0x03 => some (.connect b7)
    | 0x04 => (readFlag b8).map fun all => .disconnect (if all then none else some b7)
    | 0x05 => do
      let i ← readInst b7
      if 16 ≤ b8.toNat ∨ 8 ≤ b9.toNat ∨ 16 ≤ b10.toNat then none
      else some (.configure i ⟨b8, b9, b10, BitVec.ofNat 24 (read24 b11 b12 b13)⟩)
    | 0x06 => do
      let i ← readInst b7
      let on ← readFlag b8
      some (.output i on)
    | 0x07 => do
      let i ← readInst b7
      let range ← readIndex8 b8
      let samples ← readSamples b10 b11
      let mode ← readMode b14
      let store ← readStore (b17.getLsbD 4) b16
      some (.measure
        { inst := i, range := range, route := if b17.getLsbD 2 then some b9 else none, samples := samples,
          spacing := BitVec.ofNat 16 (read16 b12 b13), mode := mode,
          limit := if b17.getLsbD 3 then some b15 else none, store := store, record := b17.getLsbD 0,
          requireZero := b17.getLsbD 1 })
    | 0x08 => do
      let i ← readInst b7
      let range ← readIndex8 b8
      let samples ← readSamples b10 b11
      some (.zero { inst := i, range := range, route := b9, samples := samples,
                    spacing := BitVec.ofNat 16 (read16 b12 b13) })
    | 0x09 => some (.delay (BitVec.ofNat 24 (read24 b7 b8 b9)))
    | 0x0A => some (.signal b7)
    | 0x0B => do
      let mode ← readFlag b8
      if b7 = 0 then none
      else some (.waitFlag b7 (if mode then .all else .any) (BitVec.ofNat 16 (read16 b9 b10)))
    | 0x0C => some .chainEnd
    | _ => none
  | _ => none

/-- A step record from its 20 bytes (R11). -/
def readStepRecord : List Byte → Option StepRecord
  | kind :: t0 :: t1 :: n0 :: n1 :: f0 :: f1 :: fields => do
    let next ← readNext n0 n1
    let onFail ← readOnFail f0 f1
    let k ← readStepKind kind fields
    some ⟨BitVec.ofNat 16 (read16 t0 t1), next, onFail, k⟩
  | _ => none

/-- The kind code of a step record, as STEP_DONE carries it too. -/
def stepKindCode : StepKind → Nat
  | .acquire _ => 0x01
  | .release _ => 0x02
  | .connect _ => 0x03
  | .disconnect _ => 0x04
  | .configure _ _ => 0x05
  | .output _ _ => 0x06
  | .measure _ => 0x07
  | .zero _ => 0x08
  | .delay _ => 0x09
  | .signal _ => 0x0A
  | .waitFlag _ _ _ => 0x0B
  | .chainEnd => 0x0C

/-- The option byte of a MEASURE. -/
def measureOptions (f : MeasureFields) : Byte :=
  (if f.record then 1 else 0) ||| (if f.requireZero then 2 else 0) ||| (if f.route.isSome then 4 else 0) |||
    (if f.limit.isSome then 8 else 0) ||| (if f.store.isSome then 16 else 0)

def padTo (n : Nat) (bs : List Byte) : List Byte := bs ++ List.replicate (n - bs.length) 0

/-- The 13 bytes of kind fields; bytes a kind does not use are 0. -/
def stepFields : StepKind → List Byte
  | .acquire i | .release i => padTo 13 (u8 i)
  | .connect d => padTo 13 [d]
  | .disconnect (some d) => padTo 13 [d, 0]
  | .disconnect none => padTo 13 [0, 1]
  | .configure i f => padTo 13 (u8 i ++ [f.function, f.range, f.aperture] ++ le24 f.level.toNat)
  | .output i on => padTo 13 (u8 i ++ flagByte on)
  | .measure f =>
    padTo 13 (u8 f.inst ++ u8 f.range ++ [f.route.getD 0] ++ le16 f.samples ++ le16 f.spacing.toNat ++
      u8 (modeCode f.mode) ++ [f.limit.getD 0] ++ u8 (f.store.getD 0) ++ [measureOptions f])
  | .zero f => padTo 13 (u8 f.inst ++ u8 f.range ++ [f.route] ++ le16 f.samples ++ le16 f.spacing.toNat)
  | .delay d => padTo 13 (le24 d.toNat)
  | .signal m => padTo 13 [m]
  | .waitFlag m mode t => padTo 13 ([m] ++ flagByte (mode == .all) ++ le16 t.toNat)
  | .chainEnd => padTo 13 []

/-- The 20 bytes of a step record. -/
def stepRecordBytes (r : StepRecord) : List Byte :=
  u8 (stepKindCode r.kind) ++ le16 r.tag.toNat ++ le16 (nextCode r.next) ++
    le16 (match r.onFail with | some n => nextCode n | none => 0xFFFF) ++ stepFields r.kind

/-! ### Route definitions (R52, R53; 21 bytes) -/

/-- A route definition record; a node count of 0 marks its index undefined (`some none`). -/
def readRouteDef : List Byte → Option (Option RouteDef)
  | inst :: term :: count :: s0 :: s1 :: nodes => do
    let i ← readInst inst
    let t ← readTerminal term
    let ns := (chunks 2 count.toNat nodes).map fun p =>
      match p with
      | [a, b] => read16 a b
      | _ => 0
    if 8 < count.toNat ∨ ns.any (fun n => 511 < n) ∨ ¬ ns.Nodup then none
    else if count = 0 then some none
    else some (some ⟨i, t, ns, BitVec.ofNat 16 (read16 s0 s1)⟩)
  | _ => none

/-! ### Limit sets (R123, R124; 18 bytes) -/

/-- A limit set record; kind NONE makes its index undefined (`some none`) and is not checked further. -/
def readLimitSet : List Byte → Option (Option LimitSet)
  | [kind, ref, a0, a1, a2, a3, h0, h1, h2, h3, b0, b1, c0, c1, g0, g1, g2, g3] =>
    let guard := read32 g0 g1 g2 g3
    match kind.toNat with
    | 0 => some none
    | 1 =>
      let low := signed32 (read32 a0 a1 a2 a3)
      let high := signed32 (read32 h0 h1 h2 h3)
      if high < low ∨ 134217727 < guard then none
      else
        some (some (.abs low high guard ⟨ref, BitVec.ofNat 16 (read16 b0 b1), BitVec.ofNat 16 (read16 c0 c1)⟩))
    | 2 => do
      let r ← readIndex8 ref
      if 10000 < read16 b0 b1 ∨ 10000 < read16 c0 c1 ∨ 134217727 < guard then none
      else
        some (some (.rel r (read16 b0 b1) (read16 c0 c1) guard
          ⟨BitVec.ofNat 32 (read32 a0 a1 a2 a3), BitVec.ofNat 32 (read32 h0 h1 h2 h3)⟩))
    | _ => none
  | _ => none

/-! ### Calibration entries (R121, R122; 8 bytes) -/

/-- A calibration entry; with the valid flag clear the offset is stored as 0 and the gain as 4,194,304. -/
def readCalEntry : List Byte → Option CalEntry
  | [o0, o1, o2, g0, g1, g2, unit, valid] => do
    let v ← readFlag valid
    let gain := read24 g0 g1 g2
    if gain = 0 then none
    else if v then some ⟨signed24 (read24 o0 o1 o2), gain, unit, true⟩
    else some ⟨0, 4194304, unit, false⟩
  | _ => none

def calEntryBytes (e : CalEntry) : List Byte :=
  le24i e.offset ++ le24 e.gain ++ [e.unitCode] ++ flagByte e.valid

/-! ### Instrument records (R44, R46) -/

def readInstrRecord : List Byte → Option InstrRecord
  | [enable, hi, lo, shi, slo, t0, t1, width, filter, source] => do
    let e ← readFlag enable
    let h ← readBus hi
    let l ← readBus lo
    let sh ← readBus shi
    let sl ← readBus slo
    let sc ← readFlag source
    if read16 t0 t1 = 0 ∨ width = 0 then none
    else some ⟨e, h, l, sh, sl, BitVec.ofNat 16 (read16 t0 t1), width, filter, sc⟩
  | _ => none

def busBytes (b : Option BusId) : List Byte := packOption 1 (fun x : BusId => u8 x) b

def instrRecordBytes (r : InstrRecord) : List Byte :=
  flagByte r.enable ++ busBytes r.hi ++ busBytes r.lo ++ busBytes r.shi ++ busBytes r.slo ++
    le16 r.responseTimeout.toNat ++ [r.triggerWidth, r.rdyFilter] ++ flagByte r.sourceCapable

/-- The buses that a record claims, terminal by terminal (R45). -/
def InstrRecord.buses (r : InstrRecord) : List BusId := [r.hi, r.lo, r.shi, r.slo].filterMap id

/-- The bus of a terminal (R45). -/
def InstrRecord.bus (r : InstrRecord) : Terminal → Option BusId
  | .hi => r.hi
  | .lo => r.lo
  | .shi => r.shi
  | .slo => r.slo

/-! ### The fixture identity (R163, R164; 9 + 4 × site count + 2 bytes) -/

/-- The nine header bytes. -/
def readHeader : List Byte → Option IdentityHeader
  | [format, t0, t1, s0, s1, s2, s3, revision, count] =>
    some ⟨format, BitVec.ofNat 16 (read16 t0 t1), BitVec.ofNat 32 (read32 s0 s1 s2 s3), revision, count⟩
  | _ => none

def readWindow : List Byte → Window
  | [b0, b1, s0, s1] => ⟨read16 b0 b1, read16 s0 s1⟩
  | _ => ⟨0, 0⟩

/-- The windows and the stored CRC (high byte first) of a body for `count` sites. -/
def readIdentityBody (count : Nat) (bs : List Byte) : Option (List Window × BitVec 16) :=
  match bs.drop (4 * count) with
  | [c1, c0] => some ((chunks 4 count bs).map readWindow, BitVec.ofNat 16 (read16 c0 c1))
  | _ => none

/-- Check 1 and 2 of R164. -/
def headerCheck (h : IdentityHeader) : Option LoadCause :=
  if h.format ≠ 0x01 then some .format
  else if h.siteCount.toNat < 1 ∨ 8 < h.siteCount.toNat then some .count
  else none

/-- Two windows overlap (R164). -/
def Window.overlaps (a b : Window) : Bool :=
  decide (a.base < b.base + b.size) && decide (b.base < a.base + a.size)

/-- Check 4 of R164. -/
def windowsSound (ws : List Window) : Bool :=
  ws.all (fun w => decide (1 ≤ w.size) && decide (w.base + w.size ≤ 512)) &&
    decide (ws.Pairwise fun a b => a.overlaps b = false)

/-- Checks 3 and 4 of R164: `bytes` are the record's bytes before the CRC. -/
def bodyCheck (bytes : List Byte) (b : List Window × BitVec 16) : Option LoadCause :=
  if crc16 bytes ≠ b.2 then some .crc
  else if windowsSound b.1 then none
  else some .window

def headerBytesOf (h : IdentityHeader) : List Byte :=
  [h.format] ++ le16 h.type.toNat ++ le32 h.serial.toNat ++ [h.revision, h.siteCount]

/-- The identity held as FIXTURE_READ reports it: every field, the windows in eight places, all ones where a field is
absent (R171, R194; notes/assumptions/8). -/
def identityBytes : Option Identity → List Byte
  | none => absent 43
  | some i =>
    headerBytesOf i.header ++
      (match i.body with
       | some (ws, crc) =>
         (ws.take 8).flatMap (fun w => le16 w.base ++ le16 w.size) ++ absent (4 * (8 - ws.length)) ++
           [BitVec.ofNat 8 (crc.toNat / 256), BitVec.ofNat 8 crc.toNat]
       | none => absent 34)

/-! ### The fixture memory bus (R174) -/

/-- The bus address 0x5C with the write direction. -/
def selectWrite : BusItem := .byte 0xB8

/-- The bus address 0x5C with the read direction. -/
def selectRead : BusItem := .byte 0xB9

/-- A word address, high byte first. -/
def wordAddress (address : Nat) : List BusItem := [.byte (BitVec.ofNat 8 (address / 256)), .byte (BitVec.ofNat 8 address)]

/-- A read transfer up to the bus address with the read direction. -/
def readItems (address : Nat) : List BusItem := [.start, selectWrite] ++ wordAddress address ++ [.start, selectRead]

/-- The end of a read that collects `count` bytes: every byte but the last is acknowledged, and a stop ends it. -/
def collectItems (count : Nat) : List BusItem := List.replicate (count - 1) (.ack true) ++ [.ack false, .stop]

/-- A write transfer up to its last data byte. -/
def writeItems (address : Nat) (data : List Byte) : List BusItem :=
  [.start, selectWrite] ++ wordAddress address ++ data.map .byte

/-- One poll of the write cycle. -/
def pollItems : List BusItem := [.start, selectWrite, .stop]

/-- The items up to the byte number `k`, counting from 0. -/
def uptoByte : Nat → List BusItem → List BusItem
  | _, [] => []
  | 0, .byte b :: _ => [.byte b]
  | k + 1, .byte b :: rest => .byte b :: uptoByte k rest
  | k, x :: rest => x :: uptoByte k rest

/-- A transfer whose byte number `k` is not acknowledged: the engine sends a stop at once. R174 says so of a read and of a
write's data bytes. DESIGN CHOICE: also of a write's bus address and address bytes (notes/assumptions/45). -/
def cutItems (k : Nat) (items : List BusItem) : List BusItem := uptoByte k items ++ [.stop]

/-! ### Codes and result records (Formats) -/

def binCode : Bin → Nat
  | .pass => 0
  | .margin => 1
  | .failLow => 2
  | .failHigh => 3
  | .invalid => 4
  | .noJudge => 5

/-- none 0 (Formats). -/
def worstCode : Option Worst → Nat
  | none => 0
  | some .pass => 1
  | some .margin => 2
  | some .fail => 3

def verdictCode : Verdict → Nat
  | .pass => 0
  | .margin => 1
  | .fail => 2
  | .aborted => 3

def causeCode : Cause → Nat
  | .complete => 1
  | .hostAbort => 2
  | .stepError => 3
  | .stepTimeout => 4
  | .seatLost => 5
  | .lid => 6
  | .linkWatchdog => 7
  | .safeRequest => 8
  | .cleared => 9

def errorCode : StepError → Nat
  | .badStep => 1
  | .noLease => 2
  | .order => 3
  | .window => 4
  | .conflict => 5
  | .routesFull => 6
  | .noCard => 7
  | .hot => 8
  | .noRoute => 9
  | .routeFault => 10
  | .timeout => 11
  | .nak => 12
  | .offline => 13
  | .noZeroOvr => 14
  | .safe => 15

/-- A step reference in a slot field: 0xFFFF for a DIRECT step, and for none (R194). -/
def stepRefBytes : Option StepRef → List Byte
  | some (.slot n) => le16 n
  | some .direct => le16 0xFFFF
  | none => absent 2

/-- Kind codes of result records. -/
def recordKind : ResultRecord → Nat
  | .sample r => if r.zero then 0x02 else 0x01
  | .runEnd _ => 0x03

def recordSeq : ResultRecord → BitVec 32
  | .sample r => r.seq
  | .runEnd r => r.seq

def recordSite : ResultRecord → SiteId
  | .sample r => r.site
  | .runEnd r => r.site

/-- A result record as FETCH sends it: 31 bytes, or 43 for RUN_END. -/
def recordBytes (rec : ResultRecord) : List Byte :=
  u8 (recordKind rec) ++ le32 (recordSeq rec).toNat ++ u8 (recordSite rec) ++
    match rec with
    | .sample r =>
      le16 r.runNumber.toNat ++ stepRefBytes r.step ++ le16 r.tag.toNat ++ u8 r.inst ++ u8 r.range ++ [r.unitCode] ++
        le32i r.result.value ++ u8 (binCode r.result.bin) ++
        [(if r.result.ovr then 1 else 0) ||| (if r.result.uncal then 2 else 0) ||| (if r.result.noZero then 4 else 0) |||
          (if r.result.noRef then 8 else 0) ||| (if r.result.manual then 16 else 0)] ++
        le16 r.taken ++ le32 r.firstTrigger.toNat ++ le32 r.conversion.toNat
    | .runEnd r =>
      le16 r.runNumber.toNat ++ u8 ((r.cause.map causeCode).getD 0) ++ u8 ((r.errorCode.map errorCode).getD 0) ++
        stepRefBytes r.step ++ le32 r.passCount.toNat ++ le32 r.marginCount.toNat ++ le32 r.failCount.toNat ++
        le32 r.noJudgeCount.toNat ++ le32 r.stepsTaken.toNat ++ u8 (worstCode r.worst) ++ u8 (verdictCode r.verdict) ++
        flagByte r.hot ++ le32 r.start.toNat ++ le32 r.duration.toNat

end Sys2Proof.Machine
end

