-- ==== Sys2Proof/Machine/State.lean ====
section
/-! DEFINITION. The state of the block, the reasons a command may stop, and the state right after reset. -/

namespace Sys2Proof.Machine

/-- Everything the spec gives the 2860, and four fields of the model's own at the end: the safety controller's orders on
their way to the runners (R187, R188), the steps selected and not yet taken (`agenda`), the counter that free values are
applied to, and the queue of commands waiting. -/
structure State where
  time : Time
  link : Link
  steps : Table StepRecord
  routeDefs : Table RouteDef
  limits : Table LimitSet
  cal : Vector (Vector CalEntry 8) 6
  sites : Vector Site 8
  leases : Vector Lease 6
  records : Vector InstrRecord 6
  ports : Vector Port 6
  routes : Table LiveRoute
  nodes : Table NodeClaim
  image : Matrix
  chain : Chain
  wear : Table Nat
  queue : ResultQueue
  lines : Vector InputLine 17
  fixture : Fixture
  safe : SafeSet
  orders : Vector (List Cause) 8
  agenda : List (SiteId × Todo)
  freeIndex : Nat
  pending : List Instr
  deriving DecidableEq, Repr

/-- The faults of the machine: none. Every command of the table has an effect or leaves the state as it is, and no rule of
the spec stops the 2860. -/
inductive Fault where
  deriving DecidableEq, Repr

/-- The refusals of the machine. -/
inductive Refusal where
  /-- Raised by an arm of `exec` for a command without a meaning, and by nothing else; safe. No arm raises it. -/
  | notModelled (mnemonic : String)
  deriving DecidableEq, Repr

/-- Every block at its power-on values with the pins at the levels given, before the initial state of LID is handed to
the safety controller and to the load (R1, R34, R44, R75, R77, R79, R103, R121, R123, R146, R158, R165, R174, R186, R193,
R195, R204). -/
def State.powerOnValues (rate : Fin 4) (lines : BitVec 17) (rdy : BitVec 6) : State :=
  { time := 0
    link := .powerOn rate
    steps := .empty
    routeDefs := .empty
    limits := .empty
    cal := .replicate 6 (.replicate 8 .powerOn)
    sites := .replicate 8 .powerOn
    leases := .replicate 6 ⟨none, []⟩
    records := .replicate 6 .powerOn
    ports := .ofFn fun i => .powerOn (rdy.getLsbD i)
    routes := .empty
    nodes := .empty
    image := .allOpen
    chain := .powerOn
    wear := .empty
    queue := .empty
    lines := .ofFn fun l => .powerOn (lines.getLsbD l)
    fixture := .powerOn
    safe := ⟨false, false, false⟩
    orders := .replicate 8 []
    agenda := []
    freeIndex := 0
    pending := [] }

/-- The machine right after power-on reset with every pin low (notes/assumptions/1): the RATE straps select 115,200 bit/s,
every input line reads active, so LID reads closed, LID is no safe cause and a load has begun its HEADER read (R177): the engine is addressing word 0 (R174). -/
def State.reset : State :=
  { State.powerOnValues 0 0 0 with
    fixture := { Fixture.powerOn with
      state := .loading, loadStep := some .header, busy := true, lastCommand := some (.loadHeader, 0, 9),
      sent := [.start, .byte 0xB8, .byte 0, .byte 0, .start, .byte 0xB9] } }

end Sys2Proof.Machine
end

