-- ==== Sys2Proof/Machine/Ops.lean ====
section
/-! DEFINITION. The named operations every block uses: reading and replacing the parts of State, time, the transmit queue
(R195), the counter groups (R198), the notices (R17, R31, R85, R94, R119, R153, R155, R160, R170, R187, R197) and the
safety controller (R186, R187). -/

namespace Sys2Proof.Machine

def allSites : List SiteId := [0, 1, 2, 3, 4, 5, 6, 7]

def allInsts : List InstrId := [0, 1, 2, 3, 4, 5]

def allCards : List CardId := [0, 1, 2, 3, 4, 5, 6, 7, 8, 9, 10, 11, 12, 13, 14, 15]

def allLines : List LineId := [0, 1, 2, 3, 4, 5, 6, 7, 8, 9, 10, 11, 12, 13, 14, 15, 16]

/-! ### Parts of the state -/

def State.site (s : State) (n : SiteId) : Site := s.sites[n]

def State.setSite (s : State) (n : SiteId) (c : Site) : State := { s with sites := s.sites.set n c }

def State.port (s : State) (i : InstrId) : Port := s.ports[i]

def State.setPort (s : State) (i : InstrId) (p : Port) : State := { s with ports := s.ports.set i p }

def State.lease (s : State) (i : InstrId) : Lease := s.leases[i]

def State.setLease (s : State) (i : InstrId) (l : Lease) : State := { s with leases := s.leases.set i l }

def State.record (s : State) (i : InstrId) : InstrRecord := s.records[i]

def State.card (s : State) (k : CardId) : Card := s.chain.cards[k]

def State.setChain (s : State) (c : Chain) : State := { s with chain := c }

def State.setCard (s : State) (k : CardId) (c : Card) : State :=
  s.setChain { s.chain with cards := s.chain.cards.set k c }

def State.setLink (s : State) (l : Link) : State := { s with link := l }

def State.setFixture (s : State) (f : Fixture) : State := { s with fixture := f }

def State.line (s : State) (l : LineId) : InputLine := s.lines[l]

def State.setLine (s : State) (l : LineId) (x : InputLine) : State := { s with lines := s.lines.set l x }

def State.calEntry (s : State) (i : InstrId) (r : Fin 8) : CalEntry := s.cal[i][r]

/-- The site holds the instrument: the view of the held-instrument set (R34). -/
def State.holds (s : State) (n : SiteId) (i : InstrId) : Bool := (s.lease i).holder == some n

/-- The held-instrument set of a site, bit i for instrument i (R1, R34). -/
def State.heldSet (s : State) (n : SiteId) : BitVec 6 :=
  allInsts.foldl (fun b i => if s.holds n i then b ||| (1#6 <<< i.val) else b) 0

/-- The site works: it is in RUN or MANUAL. -/
def State.works (s : State) (n : SiteId) : Bool := (s.site n).state == .run || (s.site n).state == .manual

/-- The site is not at rest: RUN, MANUAL or TEARDOWN (R10, R53, R124, R172, R173, R175). -/
def State.busySite (s : State) (n : SiteId) : Bool := s.works n || (s.site n).state == .teardown

def State.anyBusySite (s : State) : Bool := allSites.any s.busySite

/-- The site is one of the sites in a run (R4, R178). -/
def Site.inRun (c : Site) : Bool := c.state == .run || (c.state == .teardown && c.origin == some .run)

/-- The number of sites in a run (R4). -/
def State.runCount (s : State) : Nat := (allSites.filter fun n => (s.site n).inRun).length

/-- The free count of the result queue (R146). -/
def State.free (s : State) : Nat := 1024 - s.queue.posted.length

/-! ### Time -/

/-- Time at the first reading at which the timer has expired, or as it is if it has (R32). -/
def State.passTo (s : State) (t : Timer) : State := if t.expired s.time then s else { s with time := t.expiry }

/-! ### The transmit queue and the counters of the link -/

/-- A frame enters the transmit queue (R195). -/
def send (f : Frame) (s : State) : State := s.setLink { s.link with tx := s.link.tx ++ [f] }

/-- A counter of the LINK group increases (R198). -/
def countLink (k : LinkCounter) (s : State) : State := s.setLink { s.link with counters := s.link.counters.bump k }

/-- A counter of the WATCHDOG group increases (R198). -/
def countWatchdog (k : WatchdogCounter) (s : State) : State :=
  s.setLink { s.link with watchdogs := s.link.watchdogs.bump k }

/-- A notice is handed to the host link: it enters when at least two places are free, and is dropped and counted otherwise
(R195). A notice carries TAG 0 (R191). -/
def notice (kind : Byte) (body : List Byte) (s : State) : State :=
  if s.link.tx.length + 2 ≤ 16 then send ⟨kind, 0, body⟩ s else countLink .noticeLost s

/-! ### Bodies of notices (packed by R194 in the order of their rules) -/

def timeBytes (s : State) : List Byte := le32 s.time.toNat

/-- The code byte of a name to which the spec gives no number (notes/assumptions/4). -/
def codeByte (f : CodeField) (n : Nat) : List Byte := [Config.code f n]

/-- STEP_DONE (R31). `outcome`: 0 DONE, 1 FAIL, 2 ERROR, 3 ABORTED. -/
def stepDoneNotice (n : SiteId) (r : StepRecord) (outcome : Nat) (bin : Option Bin) (err : Option StepError) (s : State) :
    State :=
  notice 0x82
    (u8 n ++ u8 (stepKindCode r.kind) ++ le16 r.tag.toNat ++ codeByte .stepOutcome outcome ++
      packOption 1 (fun b => u8 (binCode b)) bin ++ packOption 1 (fun e => u8 (errorCode e)) err ++ timeBytes s) s

/-- FLAG (R17). -/
def flagNotice (n : SiteId) (s : State) : State := notice 0x83 (u8 n ++ [(s.site n).outFlags] ++ timeBytes s) s

/-- RESULTS_READY (R155). -/
def resultsReadyNotice (rec : ResultRecord) (s : State) : State :=
  notice 0x80 (le32 (recordSeq rec).toNat ++ u8 (recordKind rec) ++ u8 (recordSite rec) ++ timeBytes s) s

/-- RUN_END (R153). -/
def runEndNotice (r : RunEndRecord) (s : State) : State :=
  notice 0x81
    (u8 r.site ++ le16 r.runNumber.toNat ++ le32 r.seq.toNat ++ packOption 1 (fun c => u8 (causeCode c)) r.cause ++
      packOption 1 (fun e => u8 (errorCode e)) r.errorCode ++ u8 (verdictCode r.verdict) ++ flagByte r.hot ++
      timeBytes s) s

def safeSetCode (c : SafeSet) : Nat := (if c.lid then 1 else 0) + (if c.link then 2 else 0) + (if c.request then 4 else 0)

def safeCauseCode : SafeCause → Nat
  | .lid => 0
  | .link => 1
  | .request => 2

/-- SAFE (R187). -/
def safeNotice (c : SafeCause) (added : Bool) (s : State) : State :=
  notice 0x89
    (codeByte .safeCauses (safeSetCode s.safe) ++ flagByte s.safe.holds ++ codeByte .safeCause (safeCauseCode c) ++
      codeByte .safeDirection (if added then 0 else 1) ++ timeBytes s) s

/-- WATCHDOG (R197). -/
def watchdogNotice (s : State) : State :=
  notice 0x8A (le16 s.link.limit.toNat ++ [s.link.watchdogs.expiry] ++ timeBytes s) s

def cardCauseCode : CardCause → Nat
  | .readback => 0
  | .lost => 1

/-- CARD (R85). `difference` is the place of the first differing crosspoint. -/
def cardNotice (k : CardId) (cause : CardCause) (id returned : Option Byte) (differing : Nat) (difference : Option Nat)
    (pass : Nat) (s : State) : State :=
  notice 0x86
    (u8 k ++ codeByte .cardCause (cardCauseCode cause) ++ packOption 1 (fun b => [b]) id ++
      packOption 1 (fun b => [b]) returned ++ le16 differing ++
      packOption 3 (fun d => u8 (d / 32) ++ le16 (32 * k.val + d % 32)) difference ++ [(s.card k).faultCount] ++
      le32 pass ++ timeBytes s) s

/-- WEAR (R94). -/
def wearNotice (k : CardId) (place count : Nat) (s : State) : State :=
  notice 0x88 (u8 k ++ u8 (place / 32) ++ le16 (32 * k.val + place % 32) ++ le24 count ++ timeBytes s) s

def portStateCode : PortState → Nat
  | .disabled => 0
  | .offline => 1
  | .idle => 2
  | .command => 3
  | .triggered => 4
  | .fetching => 5

def sourceCode : SourceState → Nat
  | .off => 0
  | .on => 1
  | .unknown => 2

def failureCode : PortFailure → Nat
  | .timeout => 0
  | .checksum => 1

def identBytes (x : IdentFields) : List Byte := [x.type, x.revision] ++ le32 x.serial.toNat

/-- The causes of a PORT notice (R119). -/
inductive PortCause where
  | enabled | noAnswer | lost (failure : PortFailure) | found | disabled
  deriving DecidableEq, Repr

def portCauseCode : PortCause → Nat
  | .enabled => 0
  | .noAnswer => 1
  | .lost _ => 2
  | .found => 3
  | .disabled => 4

/-- PORT (R119). -/
def portNotice (i : InstrId) (cause : PortCause) (s : State) : State :=
  let p := s.port i
  notice 0x87
    (u8 i ++ codeByte .portState (portStateCode p.state) ++ codeByte .portCause (portCauseCode cause) ++
      (match cause with
       | .lost f => codeByte .portFailure (failureCode f)
       | _ => absent 1) ++
      (match cause with
       | .enabled | .found => packOption 6 identBytes p.lastIdent
       | _ => absent 6) ++
      codeByte .sourceState (sourceCode p.source) ++ [p.counters.lostLink] ++ timeBytes s) s

def fixtureStateCode : FixtureState → Nat
  | .noIdentity => 0
  | .loading => 1
  | .valid => 2
  | .invalid => 3
  | .emulated => 4

def loadCauseCode : LoadCause → Nat
  | .noAck => 0
  | .format => 1
  | .count => 2
  | .crc => 3
  | .window => 4

/-- FIXTURE (R170). -/
def fixtureNotice (s : State) : State :=
  let f := s.fixture
  notice 0x85
    (codeByte .fixtureState (fixtureStateCode f.state) ++
      packOption 1 (fun c => codeByte .loadCause (loadCauseCode c)) f.loadCause ++
      packOption 2 (fun i : Identity => le16 i.header.type.toNat) f.held ++
      packOption 4 (fun i : Identity => le32 i.header.serial.toNat) f.held ++
      packOption 1 (fun i : Identity => [i.header.revision]) f.held ++
      packOption 1 (fun i : Identity => [i.header.siteCount]) f.held ++ timeBytes s) s

/-- The kind of a line and its site: SEAT, START or LID (R160). -/
def lineSite (l : LineId) : Nat × Option SiteId :=
  if h : l.val < 8 then (0, some ⟨l.val, h⟩)
  else if h : l.val - 8 < 8 then (1, some ⟨l.val - 8, h⟩)
  else (2, none)

/-- What an INPUT notice says of a START change: whether it is a start press, and the run it began (R160). -/
inductive Press where
  | notStart
  | noPress
  | refused
  | began (run : BitVec 16)
  deriving DecidableEq, Repr

/-- INPUT (R160). -/
def inputNotice (l : LineId) (active : Bool) (press : Press) (s : State) : State :=
  let k := lineSite l
  notice 0x84
    (codeByte .lineKind k.1 ++ packOption 1 (fun n : SiteId => u8 n) k.2 ++
      codeByte .lineState (2 * k.1 + (if active then 0 else 1)) ++
      (match press with
       | .notStart => absent 1
       | .noPress => flagByte false
       | _ => flagByte true) ++
      (match press with
       | .refused => flagByte true
       | .began _ => flagByte false
       | _ => absent 1) ++
      (match press with
       | .began r => le16 r.toNat
       | _ => absent 2) ++ timeBytes s) s

/-! ### The safety controller (R186, R187) -/

/-- An order on its way to every runner (R187). -/
def orderAll (c : Cause) (s : State) : State := { s with orders := s.orders.map (· ++ [c]) }

/-- A safe cause is added: its SAFE notice, and on entry into the safe state an order to each runner. -/
def safeAdd (c : SafeCause) (s : State) : State :=
  if s.safe.has c then s
  else
    let s' := safeNotice c true { s with safe := s.safe.assign true c }
    if s.safe.holds then s' else orderAll (orderCause c) s'

/-- A safe cause is removed, with its SAFE notice (R187, R189). DESIGN CHOICE: an order that its runner has not taken stays on
its way when the safe state is left (notes/assumptions/19). -/
def safeRemove (c : SafeCause) (s : State) : State :=
  if s.safe.has c then safeNotice c false { s with safe := s.safe.assign false c } else s

/-! ### The identity in force and usability (R2, R54, R165) -/

/-- The identity held is in force in VALID and EMULATED. -/
def Fixture.inForce (f : Fixture) : Bool := f.state == .valid || f.state == .emulated

/-- The window of a site in the identity in force; a site without one has size 0, so that no node translates. -/
def State.window (s : State) (n : SiteId) : Window :=
  if s.fixture.inForce then
    match s.fixture.held with
    | some ⟨_, some (ws, _)⟩ => ws.getD n.val ⟨0, 0⟩
    | _ => ⟨0, 0⟩
  else ⟨0, 0⟩

def lidLine : LineId := 16

def seatLine (n : SiteId) : LineId := ⟨n.val, by omega⟩

def startLine (n : SiteId) : LineId := ⟨n.val + 8, by omega⟩

def State.lidClosed (s : State) : Bool := (s.line lidLine).active

/-- The four usability conditions of a site (R2). -/
def State.usable (s : State) (n : SiteId) : Bool :=
  s.fixture.inForce &&
    (match s.fixture.held with
     | some i => decide (n.val < i.header.siteCount.toNat)
     | none => false) &&
    (s.line (seatLine n)).active && s.lidClosed

/-- The state of rest that usability gives a site (R2, R6). -/
def State.restState (s : State) (n : SiteId) : SiteState := if s.usable n then .idle else .unseated

/-- The runner of a site judges usability anew; only a site at rest moves (R2). -/
def judgeSite (s : State) (n : SiteId) : State :=
  if s.busySite n then s else s.setSite n { s.site n with state := s.restState n }

def judgeAll (s : State) : State := allSites.foldl judgeSite s

end Sys2Proof.Machine
end

