-- ==== Sys2Proof/Machine/ChainOps.lean ====
section
/-! DEFINITION. Operations of the relay chain controller and of the matrix: crosspoints (R49, R78), the beginning of a scan
pass (R81), the wear count (R93, R94) and the frames' order (R82, R84). -/

namespace Sys2Proof.Machine

/-! ### Crosspoints -/

/-- The card of a node (Routes and the Node Map 3.1). -/
def cardOf (node : Nat) : CardId := ⟨node / 32 % 16, Nat.mod_lt _ (by omega)⟩

/-- The place of a crosspoint in its card's word (R78). -/
def placeOf (bus : BusId) (node : Nat) : Nat := 32 * bus.val + node % 32

/-- The crosspoints of a route on one card (R49). -/
def routeBits (bus : BusId) (nodes : List Nat) (k : CardId) : BitVec 512 :=
  nodes.foldl (fun b p => if cardOf p = k then b ||| (1#512 <<< placeOf bus p) else b) 0

/-- The crosspoints of a route (R49). -/
def LiveRoute.crosspoints (r : LiveRoute) : Matrix := Vector.ofFn fun k => routeBits r.bus r.nodes k

def Matrix.union (a b : Matrix) : Matrix := Vector.zipWith (· ||| ·) a b

def Matrix.remove (a b : Matrix) : Matrix := Vector.zipWith (fun x y => x &&& ~~~y) a b

/-- Every crosspoint of `b` is in `a`. -/
def Matrix.containsAll (a b : Matrix) : Bool := allCards.all fun k => a[k] &&& b[k] == b[k]

/-- No crosspoint of `b` is in `a`. -/
def Matrix.containsNone (a b : Matrix) : Bool := allCards.all fun k => a[k] &&& b[k] == 0

/-! ### Scan passes -/

/-- A position is present when its state is ACTIVE or FAULT (R77). -/
def Card.present (c : Card) : Bool := c.state != .absent

/-- The next present position from `cursor` on, in increasing order (R82, R84). -/
def State.nextPresent (s : State) (cursor : Nat) : Option CardId :=
  allCards.find? fun k => decide (cursor ≤ k.val) && (s.card k).present

/-- The positions that are ACTIVE, bit k for position k (R81). -/
def activeSet (cards : Vector Card 16) : BitVec 16 :=
  allCards.foldl (fun b k => if cards[k].state == .active then b ||| (1#16 <<< k.val) else b) 0

/-- A scan pass begins (R81); with no position present SHIFT ends at once (R82). -/
def beginPass (s : State) : State :=
  let s' := s.setChain { s.chain with
    passNumber := s.chain.passNumber + 1
    snapshot := s.image
    dirty := false
    passDue := false
    verifySet := activeSet s.chain.cards
    cursor := 0
    noted := .allOpen
    phase := .shift }
  match s'.nextPresent 0 with
  | some _ => s'
  | none => s'.setChain { s'.chain with phase := .latch }

/-- A pass begins when the controller is IDLE and the dirty mark or the pass-due mark is set (R81). -/
def chainKick (s : State) : State :=
  if s.chain.phase == .idle && (s.chain.dirty || s.chain.passDue) then beginPass s else s

/-- The dirty mark is set (R49). -/
def markDirty (s : State) : State := s.setChain { s.chain with dirty := true }

/-! ### Wear -/

/-- The places of a card's word that are set, in increasing order: by bus, then by node. -/
def setPlaces (w : BitVec 512) : List Nat := (List.range 512).filter w.getLsbD

/-- The key of a crosspoint in the wear table. -/
def wearKey (k : CardId) (place : Nat) : Nat := 512 * k.val + place

def State.wearCount (s : State) (k : CardId) (place : Nat) : Nat := (s.wear.get (wearKey k place)).getD 0

/-- A count is written; a count of 0 leaves its place empty. -/
def setWear (k : CardId) (place count : Nat) (s : State) : State :=
  { s with wear := s.wear.assign (wearKey k place) (if count = 0 then none else some count) }

/-- One noted closing: the count increases, saturating at 16,777,215, and a count that reaches its card's threshold hands
over a WEAR notice (R93, R94). -/
def countWear (k : CardId) (s : State) (place : Nat) : State :=
  let old := s.wearCount k place
  if 16777215 ≤ old then s
  else
    let s' := setWear k place (old + 1) s
    if (s.card k).threshold ≠ 0 ∧ old + 1 = (s.card k).threshold.toNat then wearNotice k place (old + 1) s' else s'

/-- The wear of the closings noted at the latch, in order of card, bus and node (R86, R93, R94). -/
def countNoted (s : State) : State :=
  allCards.foldl (fun (s' : State) (k : CardId) => (setPlaces s.chain.noted[k]).foldl (countWear k) s') s

end Sys2Proof.Machine
end

