-- ==== Sys2Proof/Machine/RouteOps.lean ====
section
/-! DEFINITION. Operations of the route manager: the live route list, the node map, the commanded image (R49–R51), the
hot-switch guard (R55), creation (R58), breaking (R65) and the pass completion (R61). -/

namespace Sys2Proof.Machine

def State.setRoutes (s : State) (t : Table LiveRoute) : State := { s with routes := t }

/-- The entry `e` of the live route list, if it is in use. -/
def State.route (s : State) (e : EntryId) : Option LiveRoute := s.routes.get e.val

def allEntries : List EntryId := List.finRange 128

/-- The entries in use of a site. -/
def State.siteEntries (s : State) (n : SiteId) : List EntryId :=
  allEntries.filter fun e => (s.route e).any fun r => r.site == n

/-- MAKING, MADE or FAULTED: the entry's crosspoints are in the image and a break takes it to BREAKING. -/
def LiveRoute.live (r : LiveRoute) : Bool := r.state != .breaking

/-- The site's entries on an instrument's buses (R38). -/
def State.entriesOn (s : State) (n : SiteId) (i : InstrId) : List EntryId :=
  allEntries.filter fun e => (s.route e).any fun r => r.site == n && r.inst == i

/-- Any live route on the instrument's buses is MAKING or BREAKING (R116). -/
def State.routeMoving (s : State) (i : InstrId) : Bool :=
  s.routes.entries.any fun e => e.2.inst == i && (e.2.state == .making || e.2.state == .breaking)

/-- The site's entry in use for a definition, if any (R51, R57). -/
def State.entryFor (s : State) (n : SiteId) (d : Byte) : Option EntryId :=
  allEntries.find? fun e => (s.route e).any fun r => r.site == n && r.definition == d

/-- The route of a definition for a site: its entry for it that is not BREAKING (R72). -/
def State.routeFor (s : State) (n : SiteId) (d : Byte) : Option EntryId :=
  allEntries.find? fun e => (s.route e).any fun r => r.site == n && r.definition == d && r.live

/-- The lowest-numbered free entry (R51). -/
def State.freeEntry (s : State) : Option EntryId := allEntries.find? fun e => (s.route e).isNone

/-- The hot-switch guard on an instrument: OFF passes, ON and UNKNOWN fail (R55). -/
def State.guardPasses (s : State) (i : InstrId) : Bool := (s.port i).source == .off

/-- The physical nodes of relative nodes in a site's window, or none when one does not translate (R54). -/
def translate (w : Window) (nodes : List Nat) : Option (List Nat) :=
  if nodes.all (fun n => decide (n < w.size)) then some (nodes.map (w.base + ·)) else none

/-- A new live route in entry `e` (R58, steps 1 to 3); the chain begins a pass if it is idle (R81). -/
def createRoute (e : EntryId) (r : LiveRoute) (s : State) : State :=
  chainKick (markDirty
    { s with
      routes := s.routes.put e.val r
      nodes := r.nodes.foldl (fun t p => t.put p ⟨r.bus, e⟩) s.nodes
      image := s.image.union r.crosspoints })

/-- One entry goes to BREAKING (R65), before the chain looks at the dirty mark; an entry that is BREAKING or free is not
changed. -/
def breakEntry (s : State) (e : EntryId) : State :=
  match s.route e with
  | some r =>
    if r.live then
      markDirty
        { s with
          routes := s.routes.put e.val { r with state := .breaking, pendingPass := true, timer := none }
          image := s.image.remove r.crosspoints }
    else s
  | none => s

/-- Entries go to BREAKING in one event (R65); an idle chain then begins a pass (R81). -/
def breakEntries (es : List EntryId) (s : State) : State :=
  if es.isEmpty then s else chainKick (es.foldl breakEntry s)

/-- The largest of a time over the cards a route uses (R61). -/
def largestTime (s : State) (time : Card → Byte) (nodes : List Nat) : Nat :=
  nodes.foldl (fun m p => max m (time (s.card (cardOf p))).toNat) 0

/-- One entry at a pass completion (R61). -/
def completeEntry (snapshot : Matrix) (s : State) (e : EntryId) : State :=
  match s.route e with
  | some r =>
    if r.pendingPass then
      if r.state = .making ∧ snapshot.containsAll r.crosspoints then
        s.setRoutes (s.routes.put e.val { r with
          pendingPass := false
          timer := some ⟨s.time, largestTime s Card.operate r.nodes * 100 + r.settle.toNat * 10⟩ })
      else if r.state = .breaking ∧ snapshot.containsNone r.crosspoints then
        s.setRoutes (s.routes.put e.val { r with
          pendingPass := false
          timer := some ⟨s.time, largestTime s Card.release r.nodes * 100⟩ })
      else s
    else s
  | none => s

/-- The route manager takes a pass completion carrying the pass snapshot (R61). -/
def routesPassCompletion (s : State) : State := allEntries.foldl (completeEntry s.chain.snapshot) s

/-- One entry at a card fault: MAKING and MADE entries with a node on the card become FAULTED (R68). -/
def faultEntry (k : CardId) (s : State) (e : EntryId) : State :=
  match s.route e with
  | some r =>
    if (r.state = .making ∨ r.state = .made) ∧ r.nodes.any (fun p => cardOf p == k) then
      s.setRoutes (s.routes.put e.val { r with state := .faulted, pendingPass := false, timer := none })
    else s
  | none => s

/-- The sites that have a MAKING or MADE entry with a node on the card (R69). DESIGN CHOICE: they are told in site order, which
R69 and R85 leave open (notes/assumptions/41). -/
def State.sitesOnCard (s : State) (k : CardId) : List SiteId :=
  allSites.filter fun n => allEntries.any fun e => (s.route e).any fun r =>
    r.site == n && (r.state == .making || r.state == .made) && r.nodes.any (fun p => cardOf p == k)

/-- An entry whose release timer has run is gone: its nodes become FREE and the entry is freed (R67, steps 1 and 2). -/
def freeRoute (e : EntryId) (r : LiveRoute) (s : State) : State :=
  { s with routes := s.routes.erase e.val, nodes := r.nodes.foldl Table.erase s.nodes }

end Sys2Proof.Machine
end

