-- ==== Sys2Proof/Machine/PortOps.lean ====
section
/-! DEFINITION. Operations of an instrument port: sending (R102, R106), the CANCEL (R107), the source state (R113), the
abandonment of an exchange (R108) and the source-off of a teardown (R117). -/

namespace Sys2Proof.Machine

/-! ### Messages to the adapter (R101, Formats) -/

def helloBody : List Byte := []

def configBody (f : ConfigFields) : List Byte := [f.function, f.range, f.aperture] ++ le24 f.level.toNat

/-- A message leaves on PnTXD with the next sequence; the receiver discards what it has partly collected (R100, R102). -/
def transmit (i : InstrId) (kind : Byte) (body : List Byte) (s : State) : State :=
  let p := s.port i
  s.setPort i { p with
    seq := p.seq + 1
    rxBytes := []
    lastSent := messageBytes ⟨kind, p.seq + 1, body⟩ }

/-- The response timer of an instrument's record, from now (R106). -/
def State.responseTimer (s : State) (i : InstrId) : Timer := ⟨s.time, (s.record i).responseTimeout.toNat * 1000⟩

/-- A message that awaits an answer: the port enters `state` with the message awaited, its sequence outstanding, the user
set and the response timer running (R105, R106, R111). -/
def sendAwaiting (i : InstrId) (state : PortState) (awaited : Awaited) (user : PortUser) (kind : Byte) (body : List Byte)
    (s : State) : State :=
  let s := transmit i kind body s
  let p := s.port i
  s.setPort i { p with
    state := state
    awaited := some awaited
    user := some user
    outstanding := some p.seq
    respTimer := some (s.responseTimer i) }

/-- CONFIG (R115). -/
def sendConfig (i : InstrId) (user : PortUser) (f : ConfigFields) (s : State) : State :=
  let s := sendAwaiting i .command .config user 0x02 (configBody f) s
  s.setPort i { s.port i with sentConfig := some f }

/-- OUTPUT ON or OFF (R115, R116). -/
def sendOutput (i : InstrId) (user : PortUser) (on : Bool) (s : State) : State :=
  sendAwaiting i .command (if on then .outputOn else .outputOff) user 0x03 (flagByte on) s

/-- HELLO of a bring-up (R105). -/
def sendHello (i : InstrId) (s : State) : State := sendAwaiting i .command .hello .bringUp 0x01 helloBody s

/-- READ at the ready edge (R111): the sequence is outstanding and the response timer restarts. -/
def sendRead (i : InstrId) (s : State) : State :=
  let s := transmit i 0x04 [] s
  let p := s.port i
  s.setPort i { p with
    state := .fetching, awaited := some .read, outstanding := some p.seq, respTimer := some (s.responseTimer i) }

/-- CANCEL: COMMAND with CANCEL awaited, nothing outstanding, no response timer and no user (R107, R108). -/
def sendCancel (i : InstrId) (ending : CancelEnd) (s : State) : State :=
  let s := transmit i 0x05 [] s
  s.setPort i { s.port i with
    state := .command, awaited := some .cancel, user := none, outstanding := none, respTimer := none,
    sentConfig := none, cancelEnd := ending }

/-! ### Source state (R113) -/

/-- The source state after an OUTPUT exchange ends with `x`; a record that is not source-capable keeps it OFF. -/
def setSource (i : InstrId) (x : SourceState) (s : State) : State :=
  s.setPort i { s.port i with source := if (s.record i).sourceCapable then x else .off }

def Awaited.isOutput : Awaited → Bool
  | .outputOn | .outputOff => true
  | .hello | .config | .read | .cancel => false

/-- An OUTPUT that was awaited fails or is refused: the source state becomes UNKNOWN. -/
def outputFailed (i : InstrId) (awaited : Option Awaited) (s : State) : State :=
  if awaited.any Awaited.isOutput then setSource i .unknown s else s

/-- An OUTPUT that was awaited is abandoned: UNKNOWN, but an OUTPUT OFF leaves OFF as it is (R108, R120). -/
def outputAbandoned (i : InstrId) (awaited : Option Awaited) (s : State) : State :=
  match awaited with
  | some .outputOn => setSource i .unknown s
  | some .outputOff => if (s.port i).source = .off then s else setSource i .unknown s
  | _ => s

/-! ### Ends of exchanges -/

/-- The port awaits an answer (R102): a HELLO, CONFIG, OUTPUT or READ. -/
def Port.awaits (p : Port) : Bool := p.awaited.any (· != .cancel)

/-- An exchange is under way for a user (R108): COMMAND awaiting an answer, TRIGGERED or FETCHING. -/
def Port.engaged (p : Port) : Bool :=
  (p.state == .command && p.awaits) || p.state == .triggered || p.state == .fetching

/-- The answer ends the wait: the port is IDLE, the failure count 0 (R102, R106). -/
def answerAccepted (i : InstrId) (s : State) : State :=
  s.setPort i { s.port i with
    state := .idle, awaited := none, user := none, outstanding := none, respTimer := none, failures := 0,
    sentConfig := none }

/-- The site leaves its exchange, and a spacing wait between two of its samples is dropped (R108). -/
def abandonPort (n : SiteId) (s : State) (i : InstrId) : State :=
  let p := s.port i
  if p.user = some (.site n) ∧ p.engaged then
    sendCancel i .idle (outputAbandoned i p.awaited s)
  else if p.spacing.any (fun x => x.1 == n) then s.setPort i { p with spacing := none }
  else s

def countPort (i : InstrId) (k : PortCounter) (s : State) : State :=
  s.setPort i { s.port i with counters := (s.port i).counters.bump k }

/-- The port reports an outcome to the teardown of site `n` (R117). -/
def reportQuiet (i : InstrId) (n : SiteId) (o : QuietOutcome) (s : State) : State :=
  s.setPort i { s.port i with quietReport := some (n, o) }

/-- The port can carry no command: DISABLED or OFFLINE. -/
def PortState.out (x : PortState) : Bool := x == .disabled || x == .offline

/-- A teardown's source-off at the port (R117): NOT_SENT when the port is out of service, sent when it is IDLE, and held
until the port leaves COMMAND otherwise. -/
def askSourceOff (n : SiteId) (s : State) (i : InstrId) : State :=
  let p := s.port i
  if p.state.out then reportQuiet i n .notSent s
  else if p.state = .idle then sendOutput i (.teardown n) false s
  else s.setPort i { p with sourceOffFor := some n }

/-- A source-off that waited is taken as the port leaves COMMAND (R117). -/
def takeSourceOff (i : InstrId) (s : State) : State :=
  match (s.port i).sourceOffFor with
  | some n => askSourceOff n (s.setPort i { s.port i with sourceOffFor := none }) i
  | none => s

/-- A trigger is given for a site (R111, step 1): the pulse, the trigger timestamp, the mark, TRIGGERED and the response
timer. A pulse that still runs goes on for its full width (R99); DEDUCED: TRIG then stays high until both have run
(notes/assumptions/20). -/
def giveTrigger (n : SiteId) (i : InstrId) (s : State) : State :=
  let p := s.port i
  s.setPort i { p with
    state := .triggered
    awaited := none
    user := some (.site n)
    outstanding := none
    respTimer := some (s.responseTimer i)
    pulse := some (Timer.orLater ⟨s.time, (s.record i).triggerWidth.toNat⟩ p.pulse s.time)
    triggerStamp := s.time
    mark := !p.filteredRdy
    spacing := none }

end Sys2Proof.Machine
end

