-- ==== Sys2Proof/Machine/RunnerOps.lean ====
section
/-! DEFINITION. What every step and every teardown is made of: waits and the ends of a step (R7, R14, R31), the abandonment
of a step (R8, R179), leases (R40, R41), posts and the space list (R150, R151, R153), the completion of a measurement
(R138, R143) and the phases of teardown (R5, R6, R178–R183). What a site does after its step has ended is put on the
agenda (notes/assumptions/10). -/

namespace Sys2Proof.Machine

/-! ### Phases and ends of a step -/

/-- The fields a step in progress keeps, emptied. -/
def Site.clearStep (c : Site) : Site := { c with taking := none, stepTimer := none, settleOn := none, needNodes := [] }

/-- The site is in phase STEP or WAIT. -/
def Site.inStep (c : Site) : Bool := c.phase != .noStep

/-- The site enters a wait (R7). -/
def waitFor (n : SiteId) (reason : WaitReason) (s : State) : State :=
  s.setSite n { s.site n with phase := .wait reason }

/-- The site is in phase STEP again (R7). -/
def resumeStep (n : SiteId) (s : State) : State := s.setSite n { s.site n with phase := .step }

def pushTodo (n : SiteId) (t : Todo) (s : State) : State := { s with agenda := s.agenda ++ [(n, t)] }

/-- What the outcome of a step in RUN selects (R14, R20). -/
def selectNext (r : StepRecord) (failed : Bool) : Todo :=
  if r.kind = .chainEnd then .enter .complete none
  else
    match if failed then r.onFail.getD r.next else r.next with
    | .slot k => .take k
    | .chainEnd => .enter .complete none

/-- A step ends as done or as judged fail (R7, R14, R31). -/
def finishStep (n : SiteId) (failed : Bool) (bin : Option Bin) (s : State) : State :=
  let c := s.site n
  match c.taking with
  | none => s
  | some r =>
    if c.state = .run then
      pushTodo n (selectNext r failed) (s.setSite n { c.clearStep with phase := .step })
    else
      stepDoneNotice n r (if failed then 1 else 0) bin none (s.setSite n { c.clearStep with phase := .noStep })

/-! ### Abandoning a step -/

/-- The site is removed from every wait queue (R41). -/
def leaveQueues (n : SiteId) (s : State) : State :=
  { s with leases := s.leases.map fun l => { l with queue := l.queue.filter (· != n) } }

/-- The site is removed from the space list (R152). -/
def leaveSpace (n : SiteId) (s : State) : State :=
  { s with queue := { s.queue with space := s.queue.space.filter (· != n) } }

/-- Every owner takes its part in the abandonment of a site's step (R8, R139, R179). -/
def abandonStep (n : SiteId) (s : State) : State :=
  let s := leaveSpace n (leaveQueues n s)
  let s := allInsts.foldl (abandonPort n) s
  let s := { s with agenda := s.agenda.filter fun e => e.1 != n }
  s.setSite n { (s.site n).clearStep with meas := .empty }

/-! ### Leases -/

/-- A handover of an instrument (R40): the head of the queue becomes the holder, or there is none. -/
def handover (i : InstrId) (s : State) : State :=
  match (s.lease i).queue with
  | [] => s.setLease i ⟨none, []⟩
  | head :: rest => s.setLease i ⟨some head, rest⟩

/-! ### Posts (R147, R150, R153) -/

/-- A record is posted at the tail (R146, R147). -/
def post (filed : ResultRecord) (s : State) : State :=
  { s with queue := { s.queue with posted := s.queue.posted ++ [filed], seq := s.queue.seq + 1 } }

/-- RESULTS_READY follows a post to an empty list (R155). -/
def readyIf (wasEmpty : Bool) (filed : ResultRecord) (s : State) : State :=
  if wasEmpty then resultsReadyNotice filed s else s

/-- Which instrument, range, sample count and spacing a sampling step names. -/
structure Sampling where
  inst : InstrId
  range : Fin 8
  samples : Nat
  spacing : BitVec 16
  requireZero : Bool
  deriving DecidableEq, Repr

/-- The sampling part of a MEASURE or ZERO step (R126, R140, R141). -/
def StepRecord.sampling (r : StepRecord) : Option Sampling :=
  match r.kind with
  | .measure f => some ⟨f.inst, f.range, f.samples, f.spacing, f.requireZero⟩
  | .zero f => some ⟨f.inst, f.range, f.samples, f.spacing, false⟩
  | _ => none

def StepKind.isZero : StepKind → Bool
  | .zero _ => true
  | _ => false

/-- The record of a measurement as the queue fills it (R144, R148). -/
def sampleRecord (s : State) (n : SiteId) (r : StepRecord) (x : Sampling) (j : Judged) : ResultRecord :=
  let c := s.site n
  .sample
    { zero := r.kind.isZero
      seq := s.queue.seq
      site := n
      runNumber := if c.state = .run then c.runNumber else 0
      step := c.current
      tag := r.tag
      inst := x.inst
      range := x.range
      unitCode := c.meas.unitCode
      result := j
      taken := c.meas.taken
      firstTrigger := c.meas.firstTrigger
      conversion := c.meas.lastConversion }

/-- One run counter increased; what it holds past its largest value is a free value (notes/assumptions/5). -/
def bumpRun (x : BitVec 32) (s : State) : BitVec 32 :=
  if x = 4294967295 then Config.runCountPastMax s.freeIndex else x + 1

/-- The run counter of a bin is at its largest value. -/
def runCountFull (c : Site) : Bin → Bool
  | .pass => c.passCount == 4294967295
  | .margin => c.marginCount == 4294967295
  | .noJudge => c.noJudgeCount == 4294967295
  | .failLow | .failHigh | .invalid => c.failCount == 4294967295

/-- The run counters and the worst bin take a bin (R138, step 3). -/
def countBin (s : State) (c : Site) (b : Bin) : Site :=
  let c :=
    match b with
    | .pass => { c with passCount := bumpRun c.passCount s }
    | .margin => { c with marginCount := bumpRun c.marginCount s }
    | .noJudge => { c with noJudgeCount := bumpRun c.noJudgeCount s }
    | .failLow | .failHigh | .invalid => { c with failCount := bumpRun c.failCount s }
  match b.rank with
  | some w => { c with worst := raiseWorst c.worst (some w) }
  | none => c

/-- Steps 1 to 4 of R138 at the site context. -/
def measuredSite (s : State) (c : Site) (store : Option (Fin 8)) (j : Judged) : Site :=
  let c :=
    match store with
    | some v => if j.bin = Bin.invalid then c else { c with vars := c.vars.set v ⟨j.value, true⟩ }
    | none => c
  let c := { c with lastJudgement := some j.bin }
  let c := if c.state = .run then countBin s c j.bin else c
  { c with meas := .empty }

/-- A MEASURE completes (R138). -/
def completeMeasure (n : SiteId) (f : MeasureFields) (j : Judged) (s : State) : State :=
  let c := s.site n
  let fresh := decide (c.state = .run) && runCountFull c j.bin
  let s := s.setSite n (measuredSite s c f.store j)
  let s := if fresh then { s with freeIndex := s.freeIndex + 1 } else s
  finishStep n j.bin.isFail (some j.bin) s

/-- The zero of an entry is written (R73, R143). -/
def writeZero (e : Option EntryId) (z : Int) (s : State) : State :=
  match e with
  | some e =>
    match s.route e with
    | some r => s.setRoutes (s.routes.put e.val { r with zero := some z })
    | none => s
  | none => s

/-- A DIRECT step ends with a step error that leaves nothing to abandon. -/
def directError (n : SiteId) (err : StepError) (s : State) : State :=
  let c := s.site n
  match c.taking with
  | some r => stepDoneNotice n r 2 none (some err) (s.setSite n { c.clearStep with phase := .noStep })
  | none => s

/-- A ZERO completes (R143). A refused zero ends the step with NOZERO_OVR; in RUN the teardown that follows is put on the
agenda, since the record is posted first. -/
def completeZero (n : SiteId) (j : Judged) (s : State) : State :=
  let c := s.site n
  if j.bin = Bin.invalid then
    let s := s.setSite n { c with meas := .empty }
    if c.state = .run then
      pushTodo n (.enter .stepError (some .noZeroOvr)) (s.setSite n { (s.site n).clearStep with phase := .step })
    else directError n .noZeroOvr s
  else
    let s := writeZero c.meas.entry j.value s
    finishStep n false none (s.setSite n { s.site n with meas := .empty })

/-- The completion of the measurement step in progress (R138, R143). -/
def completeMeasurement (n : SiteId) (j : Judged) (s : State) : State :=
  match (s.site n).taking with
  | some ⟨_, _, _, .measure f⟩ => completeMeasure n f j s
  | some ⟨_, _, _, .zero _⟩ => completeZero n j s
  | _ => s

/-- The post of a site's result is admitted (R150): record, sequence, completion, and RESULTS_READY if the list was
empty. -/
def admitPost (n : SiteId) (s : State) : State :=
  let c := s.site n
  match c.taking, c.meas.result with
  | some r, some j =>
    match r.sampling with
    | some x =>
      let filed := sampleRecord s n r x j
      readyIf s.queue.posted.isEmpty filed (completeMeasurement n j (post filed s))
    | none => s
  | _, _ => s

/-- The examination of the space list (R151). -/
def examineList : List SiteId → State → State
  | [], s => s
  | n :: rest, s =>
    if s.runCount < s.free then
      examineList rest (admitPost n { s with queue := { s.queue with space := rest } })
    else s

def examineSpace (s : State) : State := examineList s.queue.space s

/-- A measurement post is taken (R150): admitted, or held in WAIT(SPACE). -/
def takePost (n : SiteId) (s : State) : State :=
  if s.queue.space = [] ∧ s.runCount < s.free then admitPost n s
  else waitFor n .space { s with queue := { s.queue with space := s.queue.space ++ [n] } }

/-! ### Teardown -/

def setTeardownPhase (n : SiteId) (p : TeardownPhase) (s : State) : State :=
  s.setSite n { s.site n with teardownPhase := some p }

/-- The RUN_END record, built from the site context as it stands (R149). -/
def runEndRecord (s : State) (n : SiteId) : RunEndRecord :=
  let c := s.site n
  { seq := s.queue.seq
    site := n
    runNumber := c.runNumber
    cause := c.cause
    errorCode := c.errorCode
    step := c.teardownStep
    passCount := c.passCount
    marginCount := c.marginCount
    failCount := c.failCount
    noJudgeCount := c.noJudgeCount
    stepsTaken := c.stepsTaken
    worst := c.worst
    verdict := verdictOf c.cause c.worst
    hot := c.hot
    start := c.runStart
    duration := s.time - c.runStart }

/-- The end of a teardown (R6). -/
def endTeardown (n : SiteId) (s : State) : State :=
  s.setSite n { s.site n with state := s.restState n, current := none, teardownPhase := none }

/-- RECORD (R183, R153): a teardown from RUN posts its RUN_END record and leaves the count in the same event. -/
def recordPhase (n : SiteId) (s : State) : State :=
  let s := setTeardownPhase n .record s
  if (s.site n).origin = some .run then
    let filed := runEndRecord s n
    examineSpace (readyIf s.queue.posted.isEmpty (.runEnd filed)
      (runEndNotice filed (endTeardown n (post (.runEnd filed) s))))
  else endTeardown n s

/-- Every lease a site holds is handed over, in increasing index (R42). -/
def handoverAll (n : SiteId) (s : State) : State :=
  allInsts.foldl (fun s i => if s.holds n i then handover i s else s) s

/-- RELEASE (R42, R182), and RECORD after it. -/
def releasePhase (n : SiteId) (s : State) : State :=
  recordPhase n (handoverAll n (setTeardownPhase n .release s))

/-- BREAK (R71, R182), and RELEASE after it when the site has no entry in use. -/
def breakPhase (n : SiteId) (s : State) : State :=
  let s := setTeardownPhase n .breakRoutes s
  let s := breakEntries ((s.siteEntries n).filter fun e => (s.route e).any LiveRoute.live) s
  if s.siteEntries n = [] then releasePhase n s else s

/-- The instruments that QUIET asks: held, and not OFF (R180). -/
def State.quietAsked (s : State) (n : SiteId) : List InstrId :=
  allInsts.filter fun i => s.holds n i && (s.port i).source != .off

/-- A set of instruments, bit i for instrument i. -/
def instMask (is : List InstrId) : BitVec 6 := is.foldl (fun b i => b ||| (1#6 <<< i.val)) 0

/-- QUIET (R180), and BREAK after it when no instrument is asked. -/
def quietPhase (n : SiteId) (s : State) : State :=
  let asked := s.quietAsked n
  let s := s.setSite n { s.site n with teardownPhase := some .quiet, outstanding := instMask asked }
  if asked = [] then breakPhase n s else asked.foldl (askSourceOff n) s

/-- The phases from STOP on (R179). -/
def runTeardown (n : SiteId) (s : State) : State :=
  let c := s.site n
  if c.state = .teardown ∧ c.teardownPhase = some .stop then quietPhase n (abandonStep n s) else s

/-- The entry into TEARDOWN (R5, R178), with the STEP_DONE notice of a DIRECT step in progress (R31). A site that is in
neither RUN nor MANUAL is not changed. -/
def teardownEntry (n : SiteId) (cause : Cause) (err : Option StepError) (s : State) : State :=
  let c := s.site n
  if s.works n then
    let s := s.setSite n { c with
      state := .teardown
      origin := some (if c.state = .run then .run else .manual)
      cause := some cause
      errorCode := err
      teardownStep := c.current
      hot := false
      phase := .noStep
      watchdog := none
      outstanding := 0
      teardownPhase := some .stop }
    match c.taking with
    | some r => if c.state = .manual ∧ c.inStep then stepDoneNotice n r 3 none none s else s
    | none => s
  else s

/-- A cause reaches a site: entry into TEARDOWN and its phases. -/
def enterTeardown (n : SiteId) (cause : Cause) (err : Option StepError) (s : State) : State :=
  if s.works n then runTeardown n (teardownEntry n cause err s) else s

/-- A step error reaches the step in progress (R15, R31, R69): a run tears down; a DIRECT step ends and the site stays in
MANUAL. -/
def stepError (n : SiteId) (err : StepError) (s : State) : State :=
  let c := s.site n
  if c.state = .run then enterTeardown n .stepError (some err) s
  else if c.state = .manual ∧ c.inStep then
    match c.taking with
    | some r =>
      let s := abandonStep n s
      stepDoneNotice n r 2 none (some err) (s.setSite n { s.site n with phase := .noStep })
    | none => s
  else s

end Sys2Proof.Machine
end

