-- ==== Sys2Proof/Machine/StepOps.lean ====
section
/-! DEFINITION. The twelve step kinds as a site takes them: ACQUIRE and RELEASE (R36, R38), CONNECT and DISCONNECT (R56–R58,
R63, R64), the port steps (R114–R116), MEASURE and ZERO (R126, R141), DELAY, SIGNAL, WAIT_FLAG and END (R16–R20); the taking
of a step (R13), the beginning of a run (R27) and the agenda. -/

namespace Sys2Proof.Machine

/-! ### Leases -/

/-- ACQUIRE (R36). -/
def acquireStep (n : SiteId) (i : InstrId) (s : State) : State :=
  if s.holds n i then finishStep n false none s
  else if allInsts.any (fun j => decide (i < j) && s.holds n j) then stepError n .order s
  else
    match (s.lease i).holder with
    | none => finishStep n false none (s.setLease i { s.lease i with holder := some n })
    | some _ => waitFor n .lease (s.setLease i { s.lease i with queue := (s.lease i).queue ++ [n] })

/-- RELEASE (R38). -/
def releaseStep (n : SiteId) (i : InstrId) (s : State) : State :=
  if !s.holds n i then finishStep n false none s
  else
    let collected := s.entriesOn n i
    let live := collected.filter fun e => (s.route e).any LiveRoute.live
    if !live.isEmpty && !s.guardPasses i then stepError n .hot s
    else if collected.isEmpty then finishStep n false none (handover i s)
    else waitFor n .release (breakEntries live s)

/-! ### Routes -/

/-- What the checks of CONNECT answer (R56, R57). -/
inductive ConnectAnswer where
  | error (e : StepError)
  | already
  | nodesBusy (nodes : List Nat)
  | create (e : EntryId) (r : LiveRoute)
  deriving DecidableEq, Repr

/-- Check 5: the cards of the physical nodes. -/
def cardsCheck (s : State) (nodes : List Nat) : Option StepError :=
  if nodes.any (fun p => (s.card (cardOf p)).state == .absent) then some .noCard
  else if nodes.any (fun p => (s.card (cardOf p)).state == .fault) then some .routeFault
  else none

/-- The state of the entry that holds a node, if one does (check 10). -/
def State.nodeState (s : State) (p : Nat) : Option RouteState :=
  (s.nodes.get p).bind fun c => (s.route c.entry).map LiveRoute.state

/-- Checks 9 and 10 (R57), for the route that is to be created. -/
def roomCheck (s : State) (r : LiveRoute) : ConnectAnswer :=
  match s.freeEntry with
  | none => .error .routesFull
  | some e =>
    if r.nodes.any (fun p => (s.nodeState p).any (· != .breaking)) then .error .conflict
    else if r.nodes.any (fun p => (s.nodeState p).isSome) then .nodesBusy r.nodes
    else .create e r

/-- Checks 8 to 10 (R57). -/
def existingCheck (s : State) (n : SiteId) (d : Byte) (r : LiveRoute) : ConnectAnswer :=
  match (s.entryFor n d).bind s.route with
  | some old =>
    match old.state with
    | .making | .made => .already
    | .faulted => .error .routeFault
    | .breaking => roomCheck s r
  | none => roomCheck s r

/-- Checks 5 to 7 (R56), for a route on physical nodes. -/
def guardCheck (s : State) (r : LiveRoute) : Option StepError :=
  match cardsCheck s r.nodes with
  | some e => some e
  | none =>
    if !s.guardPasses r.inst then some .hot
    else if s.safe.holds then some .safe
    else none

/-- Every check of CONNECT, in order (R56, R57). -/
def connectAnswer (s : State) (n : SiteId) (d : Byte) : ConnectAnswer :=
  match s.routeDefs.get d.toNat with
  | none => .error .badStep
  | some x =>
    if !s.holds n x.inst then .error .noLease
    else
      match (s.record x.inst).bus x.terminal with
      | none => .error .badStep
      | some bus =>
        match translate (s.window n) x.nodes with
        | none => .error .window
        | some nodes =>
          let r : LiveRoute :=
            { site := n, definition := d, inst := x.inst, terminal := x.terminal, bus := bus, nodes := nodes,
              settle := x.settle, state := .making, pendingPass := true, timer := none, madeAt := none, zero := none }
          match guardCheck s r with
          | some e => .error e
          | none => existingCheck s n d r

/-- CONNECT, and its checks made again after a NODE wait (R56–R59). -/
def connectStep (n : SiteId) (d : Byte) (s : State) : State :=
  match connectAnswer s n d with
  | .error e => stepError n e s
  | .already => finishStep n false none s
  | .nodesBusy nodes =>
    let s := waitFor n .node s
    s.setSite n { s.site n with needNodes := nodes }
  | .create e r =>
    let s := waitFor n .settle (createRoute e r s)
    s.setSite n { s.site n with settleOn := some e, needNodes := [] }

/-- DISCONNECT of one definition (R63). -/
def disconnectStep (n : SiteId) (d : Byte) (s : State) : State :=
  match s.routeFor n d with
  | none => finishStep n false none s
  | some e =>
    if (s.route e).any fun r => s.guardPasses r.inst then finishStep n false none (breakEntries [e] s)
    else stepError n .hot s

/-- DISCONNECT ALL (R64). -/
def disconnectAllStep (n : SiteId) (s : State) : State :=
  let live := (s.siteEntries n).filter fun e => (s.route e).any LiveRoute.live
  if live.all fun e => (s.route e).any fun r => s.guardPasses r.inst then
    finishStep n false none (breakEntries live s)
  else stepError n .hot s

/-! ### Port steps -/

/-- What a step asks its port for. -/
inductive PortCommand where
  | configure (f : ConfigFields)
  | output (on : Bool)
  | sample
  deriving DecidableEq, Repr

/-- The port command of a step and its instrument (R115, R116, R126, R140). -/
def StepRecord.portCommand (r : StepRecord) : Option (InstrId × PortCommand) :=
  match r.kind with
  | .configure i f => some (i, .configure f)
  | .output i on => some (i, .output on)
  | .measure f => some (f.inst, .sample)
  | .zero f => some (f.inst, .sample)
  | _ => none

/-- The command is sent, or the first trigger given (R114 check 5, R128). -/
def sendCommand (n : SiteId) (i : InstrId) (c : PortCommand) (s : State) : State :=
  match c with
  | .configure f => sendConfig i (.site n) f s
  | .output on => sendOutput i (.site n) on s
  | .sample =>
    let m := (s.site n).meas
    giveTrigger n i (s.setSite n { s.site n with meas := { m with phase := .sampling } })

/-- What the kind's own checks answer (R115, R116): a step error, done at once, or nothing. -/
inductive OwnCheck where
  | passes
  | doneAtOnce
  | fails (e : StepError)
  deriving DecidableEq, Repr

def ownCheck (s : State) (i : InstrId) : PortCommand → OwnCheck
  | .output true =>
    if !(s.record i).sourceCapable then .fails .nak
    else if s.safe.holds then .fails .safe
    else if s.routeMoving i then .fails .hot
    else .passes
  | .output false => if (s.record i).sourceCapable then .passes else .doneAtOnce
  | .configure _ | .sample => .passes

/-- The port checks of a step, made anew each time a WAIT(PORT) ends (R114). -/
def portStep (n : SiteId) (i : InstrId) (c : PortCommand) (s : State) : State :=
  if !s.holds n i then stepError n .noLease s
  else if (s.port i).state.out then stepError n .offline s
  else
    match ownCheck s i c with
    | .fails e => stepError n e s
    | .doneAtOnce => finishStep n false none s
    | .passes =>
      if (s.port i).state = .command then waitFor n .port s
      else sendCommand n i c (resumeStep n s)

/-! ### MEASURE and ZERO -/

/-- The route that a sampling step names: none for a MEASURE without a route. -/
def StepRecord.namedRoute (r : StepRecord) : Option Byte :=
  match r.kind with
  | .measure f => f.route
  | .zero f => some f.route
  | _ => none

/-- The limit set that a step names is NONE (R126, check 1). -/
def limitMissing (s : State) (r : StepRecord) : Bool :=
  match r.kind with
  | .measure f =>
    match f.limit with
    | some l => (s.limits.get l.toNat).isNone
    | none => false
  | _ => false

/-- What the route check of a sampling step answers (R72, R126 check 2, R141). -/
inductive RouteAnswer where
  | error (e : StepError)
  | making (e : EntryId)
  | made (e : EntryId) (zero : Option Int)
  | notNamed
  deriving DecidableEq, Repr

def routeAnswer (s : State) (n : SiteId) (named : Option Byte) : RouteAnswer :=
  match named with
  | none => .notNamed
  | some d =>
    match s.routeFor n d with
    | none => .error .noRoute
    | some e =>
      match s.route e with
      | none => .error .noRoute
      | some r =>
        match r.state with
        | .making => .making e
        | .made => .made e r.zero
        | .faulted => .error .routeFault
        | .breaking => .error .noRoute

/-- The measurement context as a sampling step finds it once its route has answered. -/
def checkedContext (isZero : Bool) (e : Option EntryId) (zero : Option Int) : Measure :=
  { Measure.empty with phase := .checking, entry := e, zero := if isZero then none else zero }

/-- The checks of a MEASURE or ZERO, from the first (R126, R127, R141). -/
def samplingStep (n : SiteId) (r : StepRecord) (s : State) : State :=
  let s := s.setSite n { s.site n with meas := checkedContext r.kind.isZero none none, settleOn := none }
  if limitMissing s r then stepError n .badStep s
  else
    match routeAnswer s n r.namedRoute, r.portCommand with
    | .error e, _ => stepError n e s
    | .making e, _ =>
      let s := waitFor n .settle s
      s.setSite n { s.site n with settleOn := some e }
    | .made e zero, some (i, c) =>
      portStep n i c (s.setSite n { s.site n with meas := checkedContext r.kind.isZero (some e) zero })
    | .notNamed, some (i, c) => portStep n i c s
    | _, none => s

/-! ### Steps on the site context -/

/-- DELAY (R16). -/
def delayStep (n : SiteId) (duration : BitVec 24) (s : State) : State :=
  if duration = 0 then finishStep n false none s
  else
    let s := waitFor n .delay s
    s.setSite n { s.site n with stepTimer := some ⟨s.time, duration.toNat⟩ }

/-- SIGNAL (R17). -/
def signalStep (n : SiteId) (mask : Byte) (s : State) : State :=
  let c := s.site n
  let flags := c.outFlags ||| mask
  if flags = c.outFlags then finishStep n false none s
  else finishStep n false none (flagNotice n (s.setSite n { c with outFlags := flags }))

/-- A WAIT_FLAG completes: the matched in-flags are cleared (R18). -/
def flagsMatched (n : SiteId) (mask : Byte) (s : State) : State :=
  let c := s.site n
  finishStep n false none (s.setSite n { c with inFlags := clearMatched mask c.inFlags })

/-- WAIT_FLAG (R18). -/
def waitFlagStep (n : SiteId) (mask : Byte) (mode : FlagMode) (timeout : BitVec 16) (s : State) : State :=
  if maskSatisfied mode mask (s.site n).inFlags then flagsMatched n mask s
  else
    let s := waitFor n .flag s
    s.setSite n { s.site n with stepTimer := limitTimer s.time timeout.toNat }

/-! ### Taking a step -/

/-- The rule of a step's kind (R13, step 5). -/
def performStep (n : SiteId) (r : StepRecord) (s : State) : State :=
  match r.kind with
  | .acquire i => acquireStep n i s
  | .release i => releaseStep n i s
  | .connect d => connectStep n d s
  | .disconnect (some d) => disconnectStep n d s
  | .disconnect none => disconnectAllStep n s
  | .configure i f => portStep n i (.configure f) s
  | .output i on => portStep n i (.output on) s
  | .measure _ => samplingStep n r s
  | .zero _ => samplingStep n r s
  | .delay d => delayStep n d s
  | .signal m => signalStep n m s
  | .waitFlag m mode t => waitFlagStep n m mode t s
  | .chainEnd => finishStep n false none s

/-- A site context as it takes the step in slot `k` (R13, steps 1 to 3). -/
def Site.takeSlot (c : Site) (now : Time) (k : Nat) : Site :=
  { c with
    current := some (.slot k)
    phase := .step
    stepsTaken := if c.state = .run then sat32 c.stepsTaken else c.stepsTaken
    watchdog := if c.state = .run then limitTimer now c.watchdogLimit.toNat else c.watchdog }

/-- A site takes the step in slot `k` (R13). -/
def takeStep (n : SiteId) (k : Nat) (s : State) : State :=
  let c := (s.site n).takeSlot s.time k
  match s.steps.get k with
  | none => stepError n .badStep (s.setSite n c)
  | some r => performStep n r (s.setSite n { c with taking := some r })

/-- A site context as a run begins, but for the taking of its entry step (R27, steps 1 to 6; R178). -/
def Site.beginRun (c : Site) (now : Time) (clear : Bool) : Site :=
  { c with
    runNumber := if c.runNumber = 65535 then 1 else c.runNumber + 1
    passCount := 0
    marginCount := 0
    failCount := 0
    noJudgeCount := 0
    stepsTaken := 0
    worst := none
    lastJudgement := none
    cause := none
    errorCode := none
    teardownStep := none
    hot := false
    runStart := now
    vars := if clear then .replicate 8 .cleared else c.vars
    state := .run
    phase := .step
    origin := none }

/-- A run begins; its entry step is put on the agenda (R27). -/
def beginRun (n : SiteId) (slot : Nat) (clear : Bool) (s : State) : State :=
  pushTodo n (.take slot) (s.setSite n ((s.site n).beginRun s.time clear))

/-! ### The agenda -/

/-- One item of the agenda; a site that has left RUN takes nothing. -/
def runTodo (n : SiteId) (t : Todo) (s : State) : State :=
  if (s.site n).state = .run then
    match t with
    | .take k => takeStep n k s
    | .enter cause err => enterTeardown n cause err s
  else s

/-- Items of the agenda, oldest first, at most `fuel` of them. -/
def runAgenda : Nat → State → State
  | 0, s => s
  | fuel + 1, s =>
    match s.agenda with
    | [] => s
    | (n, t) :: rest => runAgenda fuel (runTodo n t { s with agenda := rest })

/-- The steps that an event has selected are taken in the same event (R14; notes/assumptions/6, 10). -/
def settle (s : State) : State := runAgenda Config.stepsPerEvent s

end Sys2Proof.Machine
end

