-- ==== Sys2Proof/Machine/EventOps.lean ====
section
/-! DEFINITION. Events that one block hands to another: a load that begins (R168), a route MADE or gone (R60, R62, R67), a
ROUTE_FAULT (R69), a card fault (R85), the pass completion (R86), the port free again (R114, R117), a sample (R128), and the
lines of the fixture (R159–R161, R166, R167). -/

namespace Sys2Proof.Machine

/-! ### The load (R168) -/

/-- The HEADER read begins. -/
def beginHeader (s : State) : State :=
  s.setFixture { s.fixture with
    state := .loading, loadStep := some .header, headerBytes := [], busy := true,
    lastCommand := some (.loadHeader, 0, 9), error := none, sent := readItems 0 }

/-- A load begins: HEADER at once when the live route list is empty, WAITING otherwise. -/
def beginLoad (s : State) : State :=
  if s.routes.entries.isEmpty then beginHeader s
  else s.setFixture { s.fixture with state := .loading, loadStep := some .waiting, headerBytes := [] }

/-- The route manager tells the fixture monitor of an empty live route list (R54, R168). -/
def listEmptied (s : State) : State :=
  if s.routes.entries.isEmpty ∧ s.fixture.state = .loading ∧ s.fixture.loadStep = some .waiting then beginHeader s else s

/-! ### Routes and sites -/

/-- The site of an entry is told that it is MADE (R60, R62, R127). -/
def tellMade (e : EntryId) (n : SiteId) (s : State) : State :=
  let c := s.site n
  if c.phase = .wait .settle ∧ c.settleOn = some e then
    match c.taking with
    | some r =>
      match r.kind with
      | .connect _ => finishStep n false none s
      | .measure _ | .zero _ => samplingStep n r (resumeStep n s)
      | _ => s
    | none => s
  else s

/-- A make timer has run (R62). -/
def routeMade (e : EntryId) (r : LiveRoute) (s : State) : State :=
  tellMade e r.site
    (s.setRoutes (s.routes.put e.val { r with state := .made, timer := none, madeAt := some s.time }))

/-- The site of an entry is told that it is gone (R67): RELEASE counts (R39), CONNECT makes its checks again (R59), BREAK
counts (R71). -/
def tellGone (r : LiveRoute) (s : State) : State :=
  let n := r.site
  let c := s.site n
  match c.phase, c.taking with
  | .wait .release, some ⟨_, _, _, .release i⟩ =>
    if i = r.inst ∧ s.entriesOn n i = [] then finishStep n false none (handover i (resumeStep n s)) else s
  | .wait .node, some ⟨_, _, _, .connect d⟩ =>
    if r.nodes.any (fun p => c.needNodes.contains p) then connectStep n d (resumeStep n s) else s
  | _, _ =>
    if c.state = .teardown ∧ c.teardownPhase = some .breakRoutes ∧ s.siteEntries n = [] then releasePhase n s else s

/-- A release timer has run: the route is gone (R67). -/
def routeGone (e : EntryId) (r : LiveRoute) (s : State) : State := listEmptied (tellGone r (freeRoute e r s))

/-- ROUTE_FAULT is delivered to a site (R69). -/
def deliverRouteFault (s : State) (n : SiteId) : State :=
  if s.works n ∧ (s.site n).inStep then stepError n .routeFault s else s

/-! ### The relay chain -/

/-- The crosspoints of a card whose returned bit differs, in order of bus and node. -/
def differences (returned latched : BitVec 512) : List Nat := setPlaces (returned ^^^ latched)

/-- A card enters FAULT (R85): its entry, the card fault event (R68, R69), the CARD notice. `returned` is the ID byte
returned, `differ` the places that differ for READBACK. -/
def cardFault (k : CardId) (cause : CardCause) (id returned : Option Byte) (differ : List Nat) (pass : Nat) (s : State) :
    State :=
  let c := s.card k
  let s := s.setCard k { c with
    state := .fault, faultCount := sat8 c.faultCount, firstCause := some (c.firstCause.getD cause) }
  let hit := s.sitesOnCard k
  let s := allEntries.foldl (faultEntry k) s
  let s := hit.foldl deliverRouteFault s
  cardNotice k cause id returned differ.length differ.head? pass s

/-- The judgement of a position of the verify set (R84). -/
def judgeCard (k : CardId) (answer : Option CardAnswer) (s : State) : State :=
  let c := s.card k
  let pass := s.chain.passNumber.toNat
  match answer with
  | none => cardFault k .lost c.id none [] pass s
  | some a =>
    if !c.relearn && c.id != some a.id then cardFault k .lost c.id (some a.id) [] pass s
    else
      let s := s.setCard k { c with id := some a.id, relearn := false }
      if a.bits = c.latched then s
      else cardFault k .readback c.id (some a.id) (differences a.bits c.latched) pass s

/-- A timer of duration 0 expires at the completion that started it (R61). -/
def expireAtOnce (s : State) (e : EntryId) : State :=
  match s.route e with
  | some r =>
    if r.timer = some ⟨s.time, 0⟩ then
      match r.state with
      | .making => routeMade e r s
      | .breaking => routeGone e r s
      | .made | .faulted => s
    else s
  | none => s

/-- The completion of a pass (R86): wear, the completion at the route manager, IDLE, and the next pass. -/
def completePass (s : State) : State :=
  let s := countNoted s
  let s := routesPassCompletion s
  let s := allEntries.foldl expireAtOnce s
  chainKick (s.setChain { s.chain with phase := .idle, noted := .allOpen })

/-! ### Ports and sites -/

/-- A site in WAIT(PORT) on the instrument makes its port checks again (R114). -/
def recheckPort (i : InstrId) (s : State) (n : SiteId) : State :=
  let c := s.site n
  if c.phase = .wait .port then
    match c.taking.bind StepRecord.portCommand with
    | some (j, cmd) => if j = i then portStep n i cmd (resumeStep n s) else s
    | none => s
  else s

/-- The port state has left COMMAND: a source-off that waited is taken (R117), and waits for the port end (R114). -/
def portFreed (i : InstrId) (s : State) : State :=
  if (s.port i).state = .command then s else allSites.foldl (recheckPort i) (takeSourceOff i s)

/-- The next trigger of a measurement (R112): at once when the spacing has run, or when it will have. -/
def nextTrigger (n : SiteId) (i : InstrId) (spacing : BitVec 16) (s : State) : State :=
  let t : Timer := ⟨(s.port i).triggerStamp, spacing.toNat⟩
  if t.expired s.time then giveTrigger n i s else s.setPort i { s.port i with spacing := some (n, t) }

/-- The result of a MEASURE or ZERO once its sampling has ended (R133–R136, R142). -/
def formResult (s : State) (c : Site) (r : StepRecord) : Judged :=
  let manual := decide (c.state = .manual)
  match r.kind with
  | .measure f => measureResult c.vars (f.limit.bind fun l => s.limits.get l.toNat) f.mode manual c.meas
  | _ => zeroResult manual c.meas

/-- The step asks for a record: every ZERO, and a MEASURE with its record flag set (R137, R142). -/
def StepRecord.wantsRecord (r : StepRecord) : Bool :=
  match r.kind with
  | .measure f => f.record
  | _ => true

/-- Sampling has ended: POSTING, and the post or the completion (R137, R142). -/
def endSampling (n : SiteId) (r : StepRecord) (s : State) : State :=
  let c := s.site n
  let j := formResult s c r
  let s := s.setSite n { c with meas := { c.meas with phase := .posting, result := some j } }
  if r.wantsRecord then takePost n s else completeMeasurement n j s

/-- The acquisition unit takes a sample of a site's measurement (R128–R132). -/
def takeSample (n : SiteId) (i : InstrId) (code : Int) (flagged sign : Bool) (trigger conversion : Time) (s : State) :
    State :=
  let c := s.site n
  match c.taking with
  | some r =>
    match r.sampling with
    | some x =>
      if c.meas.phase = .sampling then
        let m := addSample c.meas (s.calEntry i x.range) x.requireZero code flagged sign trigger conversion
        let s := s.setSite n { c with meas := m }
        if m.taken < x.samples ∧ !m.stopped then nextTrigger n i x.spacing s else endSampling n r s
      else s
    | none => s
  | none => s

/-! ### The lines of the fixture -/

/-- The raw level differs from the filtered level and has held for the filter time (R159). -/
def InputLine.due (x : InputLine) (now : Time) : Bool :=
  x.raw != x.filtered && decide (x.filter.toNat * 1000 ≤ (now - x.lastChange).toNat)

/-- The wait for a pending change of a line, if one is pending. -/
def InputLine.wait (x : InputLine) : Option Timer :=
  if x.raw = x.filtered then none else some ⟨x.lastChange, x.filter.toNat * 1000⟩

/-- A line as an accepted change leaves it: level, state and latch (R160). -/
def InputLine.accepted (x : InputLine) (filtered active : Bool) : InputLine :=
  { x with
    filtered := filtered
    active := active
    latchActive := x.latchActive || active
    latchInactive := x.latchInactive || !active }

/-- The direction of a START change is the line's start press (R161). -/
def InputLine.isPress (x : InputLine) (active : Bool) : Bool :=
  match x.edge with
  | .press => active
  | .release => !active

/-- The four conditions of a start press (R28). -/
def State.pressBegins (s : State) (n : SiteId) : Bool :=
  (s.site n).startEnable && !s.safe.holds && (s.site n).state == .idle && decide (s.runCount < s.free)

/-- A SEAT change of a site is handed on (R161, R2, R3). -/
def seatEffect (n : SiteId) (active : Bool) (s : State) : State :=
  let s := judgeSite (inputNotice (seatLine n) active .notStart s) n
  if active then s else enterTeardown n .seatLost none s

/-- A START change of a site is handed on (R161, R28); `pressed` when it is a start press. -/
def startEffect (n : SiteId) (active pressed : Bool) (s : State) : State :=
  if pressed then
    if s.pressBegins n then
      let s := beginRun n (s.site n).entryStep false s
      inputNotice (startLine n) active (.began (s.site n).runNumber) s
    else inputNotice (startLine n) active .refused s
  else inputNotice (startLine n) active .noPress s

/-- An accepted lid opening (R166). -/
def lidOpened (s : State) : State :=
  let s := safeAdd .lid (inputNotice lidLine false .notStart s)
  let s :=
    if s.fixture.state = .loading ∧ s.fixture.loadStep = some .waiting then
      fixtureNotice (s.setFixture { s.fixture with state := .noIdentity, loadStep := none })
    else s
  judgeAll s

/-- An accepted lid close (R167). -/
def lidShut (s : State) : State :=
  let s := safeRemove .lid (inputNotice lidLine true .notStart s)
  let s := s.setFixture { s.fixture with owner := .monitor }
  judgeAll (if s.fixture.state = .emulated then s else beginLoad s)

/-- An accepted change of a line is taken (R160): the line, then the notice and what it causes. `mayPress` is clear for a
change of state that INPUTS_SET makes (R162). -/
def acceptChange (l : LineId) (filtered active mayPress : Bool) (s : State) : State :=
  let x := s.line l
  let s := s.setLine l (x.accepted filtered active)
  match lineSite l with
  | (0, some n) => seatEffect n active s
  | (1, some n) => startEffect n active (mayPress && x.isPress active) s
  | _ => if active then lidShut s else lidOpened s

/-- A line is judged under its settings (R159, R162; notes/assumptions/14). LID waits while the engine is BUSY. -/
def judgeLine (l : LineId) (mayPress : Bool) (s : State) : State :=
  let x := s.line l
  let level := if x.due s.time then x.raw else x.filtered
  let active := level == x.polarity
  if l = lidLine ∧ s.fixture.busy then s
  else if active = x.active then s.setLine l { x with filtered := level }
  else acceptChange l level active mayPress s

/-- The engine has become IDLE: LID is tested again (R159). -/
def lidTest (s : State) : State := judgeLine lidLine true s

/-- The engine becomes IDLE (R169, R174, R176). -/
def engineIdle (s : State) : State := lidTest (s.setFixture { s.fixture with busy := false, transfer := none })

end Sys2Proof.Machine
end

