-- ==== Sys2Proof/Machine/LinkOps.lean ====
section
/-! DEFINITION. Operations of the host link: replies and statuses (R194, R196), the receiver (R192, R193), the taking of a
request (R194) and the reset of the link's own state (R202). -/

namespace Sys2Proof.Machine

/-! ### Statuses (R196) -/

inductive Status where
  | ok | unknownKind | badLength | badValue | state | busy | noRoom | safe | notOwner | memoryError
  deriving DecidableEq, Repr

def Status.code : Status → Byte
  | .ok => 0x00
  | .unknownKind => 0x01
  | .badLength => 0x02
  | .badValue => 0x03
  | .state => 0x04
  | .busy => 0x05
  | .noRoom => 0x06
  | .safe => 0x07
  | .notOwner => 0x08
  | .memoryError => 0x09

/-- A reply: KIND is the request's plus 0x40, TAG the request's own, the status first in the body (R191). -/
def replyFrame (kind tag : Byte) (status : Status) (fields : List Byte) : Frame :=
  ⟨kind + 0x40, tag, status.code :: fields⟩

/-- A reply is queued (R195). -/
def reply (kind tag : Byte) (status : Status) (fields : List Byte) (s : State) : State :=
  send (replyFrame kind tag status fields) s

/-! ### The receiver -/

/-- The link watchdog restarts under its limit (R197). -/
def restartWatchdog (s : State) : State :=
  s.setLink { s.link with watchdog := limitTimer s.time s.link.limit.toNat }

/-- The arrival of a good frame (R193). -/
def frameArrival (f : Frame) (s : State) : State :=
  let s := safeRemove .link (restartWatchdog s)
  if s.link.rx.length < 2 then s.setLink { s.link with rx := s.link.rx ++ [f] } else countLink .overrun s

/-- What the receiver finds acts on the link (R192, R193). -/
def linkEvent (s : State) : LinkEvent → State
  | .good f => frameArrival f s
  | .badLength => countLink .length s
  | .badCrc => countLink .crc s

/-- Bytes arrive on HRXD (R192). -/
def receive (bytes : List Byte) (s : State) : State :=
  let found := huntFrames (s.link.rxBytes ++ bytes)
  found.1.foldl linkEvent (s.setLink { s.link with rxBytes := found.2, rxLast := s.time })

/-! ### Taking a request -/

/-- A request's frame arrives at the link: as its bytes on the line, which for a receiver that holds none are the good
frame (notes/assumptions/7). -/
def deliver (f : Frame) (s : State) : State :=
  if s.link.rxBytes = [] ∧ f.body.length ≤ 1024 then frameArrival f s else receive (frameBytes f) s

/-- The link can take a request: none is in progress and the transmit queue has a free place (R194). -/
def Link.canTake (l : Link) : Bool := l.inProgress.isNone && decide (l.tx.length < 16)

/-- The frame at the head of the receive buffer leaves it (R193). -/
def popFrame (s : State) : State := s.setLink { s.link with rx := s.link.rx.tail }

/-- A request command: its frame arrives unless it is at the head of the receive buffer already, and is taken by `handler`
when R194's conditions hold; else it stays in the buffer (notes/assumptions/7). -/
def takeRequest (kind tag : Byte) (body : List Byte) (handler : State → State) (s : State) : State :=
  let f : Frame := ⟨kind, tag, body⟩
  let s := if s.link.rx.head? = some f then s else deliver f s
  if s.link.rx.head? = some f ∧ s.link.canTake then handler (popFrame s) else s

/-- Steps 2 and 3 of R194: a body of a length the kind does not allow is answered BAD_LENGTH. -/
def withLength (kind tag : Byte) (allowed : Bool) (handler : State → State) (s : State) : State :=
  if allowed then handler s else reply kind tag .badLength [] s

/-- A fixed-length request without fields. -/
def plainRequest (kind tag : Byte) (body : List Byte) (handler : State → State) (s : State) : State :=
  takeRequest kind tag body (withLength kind tag body.isEmpty handler) s

/-! ### The link at a soft reset (R202, R203) -/

/-- The LINK and WATCHDOG counter groups become 0 and none (R202; R203, part 7). -/
def clearLinkGroups (s : State) : State := s.setLink { s.link with counters := .clear, watchdogs := .clear }

/-- The link's own state at the effect of a soft reset (R202). -/
def resetLink (s : State) : State :=
  restartWatchdog (clearLinkGroups (s.setLink { s.link with rxBytes := [], rx := [], tx := [], inProgress := none }))

end Sys2Proof.Machine
end

