-- ==== Sys2Proof/Machine/Due.lean ====
section
/-! DEFINITION. The block's own events and the passing of time (R32; notes/assumptions/2, 3): what is on its way, every timer
that runs with the command of its expiry, what is due, and when time may go on to an expiry. Events that come from outside
(frames, messages, levels, answers of cards and of the fixture memory, the end of a message on a line) are never made up
here. -/

namespace Sys2Proof.Machine

/-! ### What is on its way -/

/-- A request at the head of the receive buffer that the link can take (R194). -/
def dueRequest (s : State) : Option Instr :=
  match s.link.rx with
  | f :: _ => if s.link.canTake then some (requestCommand f) else none
  | [] => none

/-- A grant by handover that its site has not yet taken (R35). -/
def grantDue (s : State) (n : SiteId) : Option Instr :=
  match (s.site n).phase, (s.site n).taking with
  | .wait .lease, some ⟨_, _, _, .acquire i⟩ => if s.holds n i then some (.grantEvent n i) else none
  | _, _ => none

/-- An event that one block has handed to another and that has not been taken: the effect of a soft reset (R201), an order
(R188), a port's outcome (R180), a grant (R35). -/
def eventOnItsWay (s : State) : Option Instr :=
  (if s.link.inProgress = some .softResetDue then some Instr.softResetEffect else none) <|>
  (allSites.find? fun n => !(s.orders[n]).isEmpty).map .safeOrder <|>
  (allInsts.find? fun i => (s.port i).quietReport.isSome).map .quietOutcome <|>
  allSites.findSome? (grantDue s)

/-! ### The timers that run -/

/-- The timers of some indices, each with the command of its expiry. -/
def timersOf {α : Type} (xs : List α) (timer : α → Option Timer) (cmd : α → Instr) : List (Timer × Instr) :=
  xs.filterMap fun x => (timer x).map fun t => (t, cmd x)

/-- The filter time of a line with a pending change; LID waits for the engine (R159). -/
def lineTimer (s : State) (l : LineId) : Option Timer :=
  if l = lidLine ∧ s.fixture.busy then none else (s.line l).wait

/-- The command of a line's pending change. -/
def lineCommand (s : State) (l : LineId) : Instr :=
  match lineSite l with
  | (0, some n) => .seatChange n
  | (1, some n) => .startChange n
  | _ => if (s.line l).raw == (s.line l).polarity then .lidClose else .lidOpen

/-- The step timer of a site in one wait. -/
def stepTimerIn (s : State) (reason : WaitReason) (n : SiteId) : Option Timer :=
  if (s.site n).phase = .wait reason then (s.site n).stepTimer else none

/-- The step watchdog runs in RUN (R25). -/
def watchdogTimer (s : State) (n : SiteId) : Option Timer :=
  if (s.site n).state = .run then (s.site n).watchdog else none

def routeTimer (s : State) (x : RouteState) (e : EntryId) : Option Timer :=
  (s.route e).bind fun r => if r.state = x then r.timer else none

/-- The RDY filter of a port whose raw level differs from the filtered one (R110). -/
def rdyTimer (s : State) (i : InstrId) : Option Timer :=
  if (s.port i).rawRdy = (s.port i).filteredRdy then none
  else some ⟨(s.port i).rdyChange, (s.record i).rdyFilter.toNat⟩

/-- The spacing wait of a port's measurement (R112). -/
def spacingTimer (s : State) (i : InstrId) : Option Timer :=
  if (s.port i).state = .idle then (s.port i).spacing.map Prod.snd else none

/-- The gap that drops a partly received frame (R192). -/
def gapTimer (s : State) : Option Timer := if s.link.rxBytes = [] then none else some ⟨s.link.rxLast, 10000⟩

/-- The timers that run and expire of themselves (R32), each with the command of its expiry. -/
def State.running (s : State) : List (Timer × Instr) :=
  timersOf allLines (lineTimer s) (lineCommand s) ++
  timersOf allSites (stepTimerIn s .delay) .delayExpiry ++
  timersOf allSites (stepTimerIn s .flag) .waitFlagTimeout ++
  timersOf allSites (watchdogTimer s) .stepWatchdogExpiry ++
  timersOf allEntries (routeTimer s .making) .makeTimerExpiry ++
  timersOf allEntries (routeTimer s .breaking) .releaseTimerExpiry ++
  timersOf [()] (fun _ => if s.chain.interval = 0 then none else s.chain.refresh) (fun _ => .refreshExpiry) ++
  timersOf allInsts (fun i => if (s.port i).engaged then (s.port i).respTimer else none) .responseTimeout ++
  timersOf allInsts (fun i => if (s.port i).state = .offline then (s.port i).probeTimer else none) .probeTimerExpiry ++
  timersOf allInsts (rdyTimer s) .rdyFilteredChange ++
  timersOf allInsts (fun i => (s.port i).pulse) .triggerPulseEnd ++
  timersOf allInsts (spacingTimer s) .triggerSpacing ++
  timersOf [()] (fun _ => s.link.watchdog) (fun _ => .linkWatchdogExpiry) ++
  timersOf [()] (fun _ => gapTimer s) (fun _ => .fragmentGapExpiry)

/-- The wait for the next poll of a write cycle (R174); the command of its expiry carries the answer of the fixture memory. -/
def pollTimer (s : State) : Option Timer :=
  match s.fixture.transfer with
  | some (.poll _ _ t) => some t
  | _ => none

/-- Every timer that runs. -/
def State.timers (s : State) : List Timer := s.running.map Prod.fst ++ (pollTimer s).toList

/-! ### What is due, and the passing of time -/

/-- The event that is due, if one is: on its way, a timer that has run, or a request. -/
def dueEvent (s : State) : Option Instr :=
  eventOnItsWay s <|> (s.running.find? fun x => x.1.expired s.time).map Prod.snd <|> dueRequest s

/-- One tick of the time base (R32). -/
def tick (s : State) : State := { s with time := s.time + 1 }

/-- The expiry of a timer can be taken now: the timer has run, or nothing else is due and no timer that runs expires before
it, so that time may go on to its expiry (R32; notes/assumptions/2). -/
def State.reaches (s : State) (t : Timer) : Bool :=
  t.expired s.time ||
    (s.agenda.isEmpty && (dueEvent s).isNone && s.timers.all fun x => decide (t.remaining s.time ≤ x.remaining s.time))

/-- The effect of an expiry, at the first reading at which its timer has run; nothing while another event comes first. -/
def whenRun (t : Timer) (effect : State → State) (s : State) : State :=
  if s.reaches t then effect (s.passTo t) else s

end Sys2Proof.Machine
end

