-- ==== Sys2Proof/Machine/Report.lean ====
section
/-! DEFINITION. What the 2860 reports of itself: the parts of STATUS (R200), COUNTERS_READ (R198), IDENT (R199), FIXTURE_READ
(R171), packed by R194 in the order of their rules. -/

namespace Sys2Proof.Machine

/-! ### Codes of named values (notes/assumptions/4) -/

def siteStateCode : SiteState → Nat
  | .unseated => 0
  | .idle => 1
  | .manual => 2
  | .run => 3
  | .teardown => 4

def waitCode : WaitReason → Nat
  | .lease => 0
  | .node => 1
  | .settle => 2
  | .port => 3
  | .space => 4
  | .flag => 5
  | .delay => 6
  | .release => 7

def phaseCode : Phase → Nat
  | .noStep => 0
  | .step => 1
  | .wait _ => 2

def Phase.reason : Phase → Option WaitReason
  | .wait r => some r
  | _ => none

def teardownPhaseCode : TeardownPhase → Nat
  | .stop => 0
  | .quiet => 1
  | .breakRoutes => 2
  | .release => 3
  | .record => 4

def originCode : Origin → Nat
  | .run => 0
  | .manual => 1

def measurePhaseCode : MeasurePhase → Nat
  | .empty => 0
  | .checking => 1
  | .sampling => 2
  | .posting => 3

def awaitedCode : Awaited → Nat
  | .hello => 0
  | .config => 1
  | .outputOn => 2
  | .outputOff => 3
  | .read => 4
  | .cancel => 5

/-- Sites are 0–7, their teardowns 8–15, BRING_UP 16, SOFT_RESET 17. -/
def userCode : PortUser → Nat
  | .site n => n
  | .teardown n => 8 + n
  | .bringUp => 16
  | .softReset => 17

def routeStateCode : RouteState → Nat
  | .making => 0
  | .made => 1
  | .breaking => 2
  | .faulted => 3

def cardStateCode : CardState → Nat
  | .absent => 0
  | .active => 1
  | .fault => 2

def chainPhaseCode : ChainPhase → Nat
  | .idle => 0
  | .discovery => 1
  | .shift => 2
  | .latch => 3
  | .verify => 4

def loadStepCode : LoadStep → Nat
  | .waiting => 0
  | .header => 1
  | .body => 2

def ownerCode : Owner → Nat
  | .monitor => 0
  | .link => 1

def engineCommandCode : EngineCommand → Nat
  | .read => 0
  | .write => 1
  | .loadHeader => 2
  | .loadBody => 3

def engineErrorCode : EngineError → Nat
  | .noAck => 0
  | .range => 1

def portCounterCode : PortCounter → Nat
  | .timeout => 0
  | .checksum => 1
  | .nak => 2
  | .stale => 3
  | .lostLink => 4

def linkCounterCode : LinkCounter → Nat
  | .crc => 0
  | .length => 1
  | .fragment => 2
  | .overrun => 3
  | .noticeLost => 4

/-- LINK 0, the site n of a STEP_EXPIRY counter n + 1. -/
def watchdogCounterCode : WatchdogCounter → Nat
  | .link => 0
  | .site n => n + 1

/-- An optional named value: one code byte, all ones when absent. -/
def optionCode {α : Type} (f : CodeField) (code : α → Nat) (x : Option α) : List Byte :=
  packOption 1 (fun a => codeByte f (code a)) x

/-! ### STATUS -/

/-- Part SUMMARY. -/
def summaryPart (s : State) : List Byte :=
  codeByte .safeCauses (safeSetCode s.safe) ++ flagByte s.safe.holds ++
    codeByte .fixtureState (fixtureStateCode s.fixture.state) ++
    le16 s.queue.posted.length ++ le16 s.free ++ le32 s.queue.seq.toNat ++
    packOption 4 (fun r => le32 (recordSeq r).toNat) s.queue.posted.head? ++
    packList 8 (fun n : SiteId => n.val) s.queue.space ++ u8 s.runCount ++
    codeByte .chainPhase (chainPhaseCode s.chain.phase) ++ flagByte s.chain.dirty ++ flagByte s.chain.passDue ++
    le32 s.chain.passNumber.toNat ++ [s.chain.interval] ++ le32 (remainingOf s.chain.refresh s.time) ++
    le16 s.link.limit.toNat ++ flagByte s.link.watchdog.isSome ++ le32 (remainingOf s.link.watchdog s.time) ++
    u8 s.link.rateCode

/-- The measurement items of R125: the phase, and in SAMPLING and POSTING the samples taken and asked for. -/
def measureItems (c : Site) : List Byte :=
  codeByte .measurePhase (measurePhaseCode c.meas.phase) ++
    match c.meas.phase with
    | .sampling | .posting =>
      le16 c.meas.taken ++ packOption 2 (fun x : Sampling => le16 x.samples) (c.taking.bind StepRecord.sampling)
    | .empty | .checking => absent 4

/-- One site of part SITES: R1 without the variables, R178, R125. -/
def siteItems (s : State) (n : SiteId) : List Byte :=
  let c := s.site n
  codeByte .siteState (siteStateCode c.state) ++ codeByte .phase (phaseCode c.phase) ++
    optionCode .waitReason waitCode c.phase.reason ++ stepRefBytes c.current ++ le16 c.entryStep ++
    flagByte c.startEnable ++ le16 c.watchdogLimit.toNat ++ le32 (remainingOf c.watchdog s.time) ++
    le16 c.runNumber.toNat ++ le32 c.runStart.toNat ++ le32 c.passCount.toNat ++ le32 c.marginCount.toNat ++
    le32 c.failCount.toNat ++ le32 c.noJudgeCount.toNat ++ le32 c.stepsTaken.toNat ++ u8 (worstCode c.worst) ++
    packOption 1 (fun b => u8 (binCode b)) c.lastJudgement ++ packOption 1 (fun x => u8 (causeCode x)) c.cause ++
    packOption 1 (fun x => u8 (errorCode x)) c.errorCode ++ stepRefBytes c.teardownStep ++ flagByte c.hot ++
    u8 (s.heldSet n).toNat ++ [c.inFlags, c.outFlags] ++
    optionCode .teardownPhase teardownPhaseCode c.teardownPhase ++ optionCode .origin originCode c.origin ++
    u8 c.outstanding.toNat ++ measureItems c

/-- Part SITES. -/
def sitesPart (s : State) : List Byte := allSites.flatMap (siteItems s)

def configBytes (f : ConfigFields) : List Byte := [f.function, f.range, f.aperture] ++ le24 f.level.toNat

/-- The port record of R103 without its counters. -/
def portItems (p : Port) (now : Time) : List Byte :=
  codeByte .portState (portStateCode p.state) ++ optionCode .awaited awaitedCode p.awaited ++
    optionCode .portUser userCode p.user ++ [p.seq] ++ packOption 1 (fun b => [b]) p.outstanding ++
    packOption 4 (fun t : Timer => le32 (t.remaining now)) p.respTimer ++
    packOption 4 (fun t : Timer => le32 (t.remaining now)) p.probeTimer ++
    codeByte .sourceState (sourceCode p.source) ++ u8 p.failures ++ packOption 6 configBytes p.lastConfig ++
    packOption 6 identBytes p.lastIdent ++ packOption 1 (fun b => [b]) p.lastNak ++
    codeByte .lineLevel (if p.filteredRdy then 0 else 1)

/-- Part INSTRUMENTS: R34, R44, R103. -/
def instrumentsPart (s : State) : List Byte :=
  allInsts.flatMap fun i =>
    packOption 1 (fun n : SiteId => u8 n) (s.lease i).holder ++
      packList 7 (fun n : SiteId => n.val) (s.lease i).queue ++ instrRecordBytes (s.record i) ++
      portItems (s.port i) s.time

/-- One entry of part ROUTES (R76); a free entry reads all ones behind its in-use flag. -/
def routeItems (s : State) (e : Nat) : List Byte :=
  match s.routes.get e with
  | none => flagByte false ++ absent 35
  | some r =>
    flagByte true ++ u8 r.site ++ [r.definition] ++ u8 r.inst ++ u8 (terminalCode r.terminal) ++ u8 r.bus ++
      (r.nodes.take 8).flatMap le16 ++ absent (2 * (8 - r.nodes.length)) ++
      codeByte .routeState (routeStateCode r.state) ++ flagByte r.pendingPass ++
      packOption 4 (fun t : Timer => le32 (t.remaining s.time)) r.timer ++
      packOption 4 (fun t : Time => le32 t.toNat) r.madeAt ++ packOption 4 le32i r.zero

/-- Part ROUTES: the entries from `first` to the smaller of `first` + 15 and 127. -/
def routesPart (s : State) (first : Nat) : List Byte :=
  ((List.range' first 16).filter (· < 128)).flatMap (routeItems s)

/-- Part CARDS (R98). -/
def cardsPart (s : State) : List Byte :=
  allCards.flatMap fun k =>
    let c := s.card k
    codeByte .cardState (cardStateCode c.state) ++ packOption 1 (fun b => [b]) c.id ++ [c.operate, c.release] ++
      le24 c.threshold.toNat ++ [c.faultCount] ++ optionCode .cardCause cardCauseCode c.firstCause ++
      flagByte c.relearn

/-- The code of a two-valued input setting: HIGH 0 and LOW 1, PRESS 0 and RELEASE 1 (notes/assumptions/13). -/
def polarityByte (high : Bool) : List Byte := [if high then 0 else 1]

def edgeByte : EdgeSelect → List Byte
  | .press => [0]
  | .release => [1]

/-- Part INPUTS (R158). -/
def inputsPart (s : State) : List Byte :=
  allLines.flatMap fun l =>
    let x := s.line l
    [x.filter] ++ polarityByte x.polarity ++ edgeByte x.edge ++
      codeByte .lineLevel (if x.filtered then 0 else 1) ++
      codeByte .lineState (2 * (lineSite l).1 + (if x.active then 0 else 1)) ++
      flagByte x.latchActive ++ flagByte x.latchInactive

/-- Every event latch cleared (R158). -/
def clearLatches (s : State) : State :=
  { s with lines := s.lines.map fun x => { x with latchActive := false, latchInactive := false } }

/-! ### COUNTERS_READ, IDENT, FIXTURE_READ -/

/-- Every counter group with its counters and first cause (R198). -/
def countersBytes (s : State) : List Byte :=
  let l := s.link.counters
  let w := s.link.watchdogs
  [l.crc, l.length, l.fragment, l.overrun, l.noticeLost] ++ optionCode .linkCounter linkCounterCode l.first ++
    [w.expiry] ++ w.stepExpiry.toList ++ optionCode .watchdogCounter watchdogCounterCode w.first ++
    allInsts.flatMap (fun i =>
      let c := (s.port i).counters
      [c.timeout, c.checksum, c.nak, c.stale, c.lostLink] ++ optionCode .portCounter portCounterCode c.first) ++
    allCards.map (fun k => (s.card k).faultCount) ++
    allCards.flatMap fun k => optionCode .cardCause cardCauseCode (s.card k).firstCause

/-- The fields of the IDENT reply (R199). -/
def identReply (s : State) : List Byte :=
  le16 0x2860 ++ [0x01] ++ u8 s.link.rateCode ++ u8 8 ++ u8 6 ++ u8 16 ++ le16 512 ++ u8 16 ++ le16 2048 ++
    le16 256 ++ u8 128 ++ le16 256 ++ le16 1024 ++ timeBytes s

/-- The fields of the FIXTURE_READ reply (R171). -/
def fixtureReply (s : State) : List Byte :=
  let f := s.fixture
  codeByte .fixtureState (fixtureStateCode f.state) ++ optionCode .loadStep loadStepCode f.loadStep ++
    optionCode .loadCause loadCauseCode f.loadCause ++ identityBytes f.held ++
    codeByte .memoryOwner (ownerCode f.owner) ++ codeByte .engineState (if f.busy then 1 else 0) ++
    packOption 4 (fun c : EngineCommand × Nat × Nat =>
      codeByte .engineCommand (engineCommandCode c.1) ++ le16 c.2.1 ++ u8 c.2.2) f.lastCommand ++
    optionCode .engineError engineErrorCode f.error

end Sys2Proof.Machine
end

