-- ==== Sys2Proof/Machine/LinkCommands.lean ====
section
/-! DEFINITION. The commands of the host link: frames in and out, the link watchdog, IDENT, STATUS, COUNTERS_READ,
COUNTERS_CLEAR, SOFT_RESET's request, WATCHDOG_SET, and the safe cause REQUEST (R190–R201). -/

namespace Sys2Proof.Machine

abbrev Answer := Host.Outcome State Fault Refusal

/-! ### Frames -/

/-- GOOD_FRAME_ARRIVAL (R192, R193): the bytes arrive; each frame that completes good is taken. -/
def execGoodFrameArrival (bytes : List Byte) (s : State) : Answer := .next (receive bytes s)

/-- FRAME_LENGTH_DROP (R192): the bytes arrive; a LENGTH above 1,024 drops its frame. -/
def execFrameLengthDrop (bytes : List Byte) (s : State) : Answer := .next (receive bytes s)

/-- FRAGMENT_GAP_EXPIRY (R192): a partial frame is dropped after its gap, and the hunt goes on in the bytes behind its
SYNC. -/
def execFragmentGapExpiry (s : State) : Answer :=
  match s.link.rxBytes with
  | [] => .next s
  | _ :: rest =>
    .next (whenRun ⟨s.link.rxLast, 10000⟩ (fun s =>
      let s := countLink .fragment s
      let found := huntFrames rest
      found.1.foldl linkEvent (s.setLink { s.link with rxBytes := found.2 })) s)

/-- The frame at the head of the transmit queue is the reply that SOFT_RESET waits for (R201). -/
def isResetReply (f : Frame) : Bool := f.kind == 0x45 && f.body == [0x00]

/-- FRAME_SENT (R195): the place of the frame sent is free. -/
def execFrameSent (s : State) : Answer :=
  match s.link.tx with
  | [] => .next s
  | f :: rest =>
    let due := decide (s.link.inProgress = some .softReset) && isResetReply f
    .next (s.setLink { s.link with
      tx := rest, inProgress := if due then some .softResetDue else s.link.inProgress })

/-- The link watchdog has expired (R197). -/
def watchdogExpired (s : State) : State :=
  let s := s.setLink { s.link with watchdog := none }
  safeAdd .link (watchdogNotice (countWatchdog .link s))

/-- LINK_WATCHDOG_EXPIRY (R197). -/
def execLinkWatchdogExpiry (s : State) : Answer :=
  match s.link.watchdog with
  | none => .next s
  | some t => .next (whenRun t watchdogExpired s)

/-- UNKNOWN_KIND_FRAME (R194, step 1). A KIND in use is no command of this row. -/
def execUnknownKindFrame (kind tag : Byte) (body : List Byte) (s : State) : Answer :=
  if kindInUse kind then .next s
  else .next (takeRequest kind tag body (send ⟨0x40, tag, [Status.unknownKind.code, kind]⟩) s)

/-! ### Reports -/

/-- IDENT (R199). -/
def execIdent (tag : Byte) (body : List Byte) (s : State) : Answer :=
  .next (plainRequest 0x01 tag body (fun s => reply 0x01 tag .ok (identReply s) s) s)

/-- The part that a STATUS body asks for, or none for a body that R200 refuses. -/
inductive StatusPart where
  | summary | sites | instruments
  | routes (first : Nat)
  | cards | inputs
  deriving DecidableEq, Repr

def statusPart : List Byte → Option StatusPart
  | [p] =>
    match p.toNat with
    | 0 => some .summary
    | 1 => some .sites
    | 2 => some .instruments
    | 4 => some .cards
    | 5 => some .inputs
    | _ => none
  | [p, first] => if p = 3 ∧ first.toNat < 128 then some (.routes first.toNat) else none
  | _ => none

/-- The bytes of a part. -/
def partBytes (s : State) : StatusPart → List Byte
  | .summary => summaryPart s
  | .sites => sitesPart s
  | .instruments => instrumentsPart s
  | .routes first => routesPart s first
  | .cards => cardsPart s
  | .inputs => inputsPart s

/-- STATUS as the link takes it (R200). -/
def statusRequest (tag : Byte) (body : List Byte) (s : State) : State :=
  takeRequest 0x02 tag body
    (withLength 0x02 tag (decide (body.length = 1 ∨ body.length = 2)) fun s =>
      match statusPart body with
      | none => reply 0x02 tag .badValue [] s
      | some p =>
        let fields := timeBytes s ++ partBytes s p
        reply 0x02 tag .ok fields (if p = .inputs then clearLatches s else s)) s

/-- STATUS_SUMMARY (R200). -/
def execStatusSummary (tag : Byte) (body : List Byte) (s : State) : Answer := .next (statusRequest tag body s)

/-- STATUS_SITES (R200). -/
def execStatusSites (tag : Byte) (body : List Byte) (s : State) : Answer := .next (statusRequest tag body s)

/-- STATUS_INSTRUMENTS (R200). -/
def execStatusInstruments (tag : Byte) (body : List Byte) (s : State) : Answer := .next (statusRequest tag body s)

/-- STATUS_ROUTES (R200). -/
def execStatusRoutes (tag : Byte) (body : List Byte) (s : State) : Answer := .next (statusRequest tag body s)

/-- STATUS_CARDS (R200). -/
def execStatusCards (tag : Byte) (body : List Byte) (s : State) : Answer := .next (statusRequest tag body s)

/-- STATUS_INPUTS (R200). -/
def execStatusInputs (tag : Byte) (body : List Byte) (s : State) : Answer := .next (statusRequest tag body s)

/-- COUNTERS_READ (R198). -/
def execCountersRead (tag : Byte) (body : List Byte) (s : State) : Answer :=
  .next (plainRequest 0x03 tag body (fun s => reply 0x03 tag .ok (countersBytes s) s) s)

/-! ### COUNTERS_CLEAR (R198) -/

/-- A counter group that COUNTERS_CLEAR names. -/
inductive CounterGroup where
  | link | watchdog
  | port (i : InstrId)
  | card
  deriving DecidableEq, Repr

def counterGroup : List Byte → Option CounterGroup
  | [g, p] =>
    match g.toNat with
    | 0 => some .link
    | 1 => some .watchdog
    | 2 => (readInst p).map .port
    | 3 => some .card
    | _ => none
  | _ => none

/-- Every card fault count and first fault cause cleared (R77). -/
def clearCardCounters (s : State) : State :=
  s.setChain { s.chain with cards := s.chain.cards.map fun c => { c with faultCount := 0, firstCause := none } }

def clearGroup (g : CounterGroup) (s : State) : State :=
  match g with
  | .link => s.setLink { s.link with counters := .clear }
  | .watchdog => s.setLink { s.link with watchdogs := .clear }
  | .port i => s.setPort i { s.port i with counters := .clear }
  | .card => clearCardCounters s

def countersClearRequest (tag : Byte) (body : List Byte) (s : State) : State :=
  takeRequest 0x04 tag body
    (withLength 0x04 tag (decide (body.length = 2)) fun s =>
      match counterGroup body with
      | none => reply 0x04 tag .badValue [] s
      | some g => reply 0x04 tag .ok [] (clearGroup g s)) s

/-- COUNTERS_CLEAR_LINK (R198). -/
def execCountersClearLink (tag : Byte) (body : List Byte) (s : State) : Answer := .next (countersClearRequest tag body s)

/-- COUNTERS_CLEAR_WATCHDOG (R198). -/
def execCountersClearWatchdog (tag : Byte) (body : List Byte) (s : State) : Answer :=
  .next (countersClearRequest tag body s)

/-- COUNTERS_CLEAR_PORT (R118, R198). -/
def execCountersClearPort (tag : Byte) (body : List Byte) (s : State) : Answer := .next (countersClearRequest tag body s)

/-- COUNTERS_CLEAR_CARD (R77, R198). -/
def execCountersClearCard (tag : Byte) (body : List Byte) (s : State) : Answer := .next (countersClearRequest tag body s)

/-! ### SOFT_RESET, WATCHDOG_SET, SAFE_ENTER, SAFE_LEAVE -/

/-- SOFT_RESET (R201): the reply is queued and the request stays in progress. -/
def execSoftReset (tag : Byte) (body : List Byte) (s : State) : Answer :=
  .next (plainRequest 0x05 tag body (fun s =>
    let s := reply 0x05 tag .ok [] s
    s.setLink { s.link with inProgress := some .softReset }) s)

/-- WATCHDOG_SET (R197). -/
def execWatchdogSet (tag : Byte) (body : List Byte) (s : State) : Answer :=
  .next (takeRequest 0x06 tag body
    (withLength 0x06 tag (decide (body.length = 2)) fun s =>
      match body with
      | [l0, l1] =>
        reply 0x06 tag .ok [] (restartWatchdog (s.setLink { s.link with limit := BitVec.ofNat 16 (read16 l0 l1) }))
      | _ => s) s)

/-- The cause set as SAFE_ENTER and SAFE_LEAVE reply it (R190). -/
def safeReply (kind tag : Byte) (s : State) : State :=
  reply kind tag .ok (codeByte .safeCauses (safeSetCode s.safe)) s

/-- SAFE_ENTER (R190). -/
def execSafeEnter (tag : Byte) (body : List Byte) (s : State) : Answer :=
  .next (plainRequest 0x30 tag body (fun s => safeReply 0x30 tag (safeAdd .request s)) s)

/-- SAFE_LEAVE (R190). -/
def execSafeLeave (tag : Byte) (body : List Byte) (s : State) : Answer :=
  .next (plainRequest 0x31 tag body (fun s => safeReply 0x31 tag (safeRemove .request s)) s)

end Sys2Proof.Machine
end

