-- ==== Sys2Proof/Machine/TableCommands.lean ====
section
/-! DEFINITION. The commands that load and read tables: STEPS_LOAD, STEPS_READ, ROUTEDEF_LOAD, LIMITS_LOAD, CAL_SET, CAL_READ,
CARD_SET, CARD_RESET, WEAR_READ, WEAR_LOAD and FETCH (R10, R12, R53, R89–R91, R95, R96, R122, R124, R154). -/

namespace Sys2Proof.Machine

/-! ### Loads of the step store -/

/-- The records of a load's body, each of `size` bytes, read one by one; none when one is out of range. -/
def readRecords {α : Type} (read : List Byte → Option α) (size : Nat) (bs : List Byte) : Option (List α) :=
  (chunks size (bs.length / size) bs).mapM read

/-- The order of checks that the three loads share (R10, R53, R124): STATE while a site works, BAD_VALUE for records beyond
the table or out of range, then the table as it is written. -/
def loadTable {α : Type} (kind tag : Byte) (places size : Nat) (read : List Byte → Option (Option α))
    (table : State → Table α) (write : State → Table α → State) (first : Nat) (clear : Byte) (records : List Byte)
    (s : State) : State :=
  if s.anyBusySite then reply kind tag .state [] s
  else if places < first + records.length / size then reply kind tag .badValue [] s
  else
    match readRecords read size records, readFlag clear with
    | some rs, some c =>
      reply kind tag .ok [] (write s ((if c then Table.empty else table s).assignFrom first rs))
    | _, _ => reply kind tag .badValue [] s

/-- The body of a load is its fixed fields and a whole number of records (R194). -/
def loadLength (fixed size length : Nat) : Bool := decide (fixed ≤ length ∧ (length - fixed) % size = 0)

/-- STEPS_LOAD (R10). -/
def execStepsLoad (tag : Byte) (body : List Byte) (s : State) : Answer :=
  .next (takeRequest 0x08 tag body
    (withLength 0x08 tag (loadLength 3 20 body.length) fun s =>
      match body with
      | f0 :: f1 :: clear :: records =>
        loadTable 0x08 tag 2048 20 (fun bs => (readStepRecord bs).map some) State.steps
          (fun s t => { s with steps := t }) (read16 f0 f1) clear records s
      | _ => s) s)

/-- ROUTEDEF_LOAD (R53). -/
def execRoutedefLoad (tag : Byte) (body : List Byte) (s : State) : Answer :=
  .next (takeRequest 0x0A tag body
    (withLength 0x0A tag (loadLength 2 21 body.length) fun s =>
      match body with
      | first :: clear :: records =>
        loadTable 0x0A tag 256 21 readRouteDef State.routeDefs (fun s t => { s with routeDefs := t }) first.toNat clear
          records s
      | _ => s) s)

/-- LIMITS_LOAD (R124). -/
def execLimitsLoad (tag : Byte) (body : List Byte) (s : State) : Answer :=
  .next (takeRequest 0x0B tag body
    (withLength 0x0B tag (loadLength 2 18 body.length) fun s =>
      match body with
      | first :: clear :: records =>
        loadTable 0x0B tag 256 18 readLimitSet State.limits (fun s t => { s with limits := t }) first.toNat clear records
          s
      | _ => s) s)

/-- A step slot as STEPS_READ returns it: the record as loaded, or an empty mark. -/
def slotBytes (s : State) (k : Nat) : List Byte :=
  match s.steps.get k with
  | some r => stepRecordBytes r
  | none => List.replicate 20 0

/-- STEPS_READ (R12); at most 51 records of 20 bytes fit in a reply body behind its status. -/
def execStepsRead (tag : Byte) (body : List Byte) (s : State) : Answer :=
  .next (takeRequest 0x09 tag body
    (withLength 0x09 tag (decide (body.length = 3)) fun s =>
      match body with
      | [f0, f1, count] =>
        if count = 0 ∨ 2048 < read16 f0 f1 + count.toNat ∨ 51 < count.toNat then reply 0x09 tag .badValue [] s
        else reply 0x09 tag .ok ((List.range' (read16 f0 f1) count.toNat).flatMap (slotBytes s)) s
      | _ => s) s)

/-! ### The calibration table -/

/-- One calibration entry replaced. -/
def setCal (i : InstrId) (r : Fin 8) (e : CalEntry) (s : State) : State :=
  { s with cal := s.cal.set i (s.cal[i].set r e) }

/-- CAL_SET (R122). -/
def execCalSet (tag : Byte) (body : List Byte) (s : State) : Answer :=
  .next (takeRequest 0x0C tag body
    (withLength 0x0C tag (decide (body.length = 10)) fun s =>
      match body with
      | inst :: range :: fields =>
        match readInst inst, readIndex8 range, readCalEntry fields with
        | some i, some r, some e => reply 0x0C tag .ok [] (setCal i r e s)
        | _, _, _ => reply 0x0C tag .badValue [] s
      | _ => s) s)

/-- CAL_READ (R122). -/
def execCalRead (tag : Byte) (body : List Byte) (s : State) : Answer :=
  .next (takeRequest 0x0D tag body
    (withLength 0x0D tag (decide (body.length = 1)) fun s =>
      match body with
      | [inst] =>
        match readInst inst with
        | some i => reply 0x0D tag .ok (s.cal[i].toList.flatMap calEntryBytes) s
        | none => reply 0x0D tag .badValue [] s
      | _ => s) s)

/-! ### Cards and wear -/

/-- CARD_SET as the link takes it (R89, R90). -/
def cardSetRequest (tag : Byte) (body : List Byte) (s : State) : State :=
  takeRequest 0x10 tag body
    (withLength 0x10 tag (decide (body.length = 7 ∨ body.length = 2)) fun s =>
      match body with
      | [form, position, operate, release, w0, w1, w2] =>
        match decide (form = 0), readCard position with
        | true, some k =>
          reply 0x10 tag .ok [] (s.setCard k { s.card k with
            operate := operate, release := release, threshold := BitVec.ofNat 24 (read24 w0 w1 w2) })
        | _, _ => reply 0x10 tag .badValue [] s
      | [form, interval] =>
        if form = 1 then
          reply 0x10 tag .ok [] (s.setChain { s.chain with
            interval := interval
            refresh := limitTimer s.time interval.toNat
            passDue := if interval = 0 then false else s.chain.passDue })
        else reply 0x10 tag .badValue [] s
      | _ => s) s

/-- CARD_SET_CARD (R89). -/
def execCardSetCard (tag : Byte) (body : List Byte) (s : State) : Answer := .next (cardSetRequest tag body s)

/-- CARD_SET_CHAIN (R90). -/
def execCardSetChain (tag : Byte) (body : List Byte) (s : State) : Answer := .next (cardSetRequest tag body s)

/-- A card reset as it is accepted (R91): ACTIVE, the relearn mark, the pass-due mark, and a pass when the controller is
IDLE. -/
def resetCard (k : CardId) (s : State) : State :=
  let s := s.setCard k { s.card k with state := .active, relearn := true }
  chainKick (s.setChain { s.chain with passDue := true })

/-- CARD_RESET (R91). -/
def execCardReset (tag : Byte) (body : List Byte) (s : State) : Answer :=
  .next (takeRequest 0x11 tag body
    (withLength 0x11 tag (decide (body.length = 1)) fun s =>
      match body with
      | [position] =>
        match readCard position with
        | none => reply 0x11 tag .badValue [] s
        | some k =>
          if s.chain.phase = .discovery then reply 0x11 tag .busy [] s
          else if (s.card k).state = .absent then reply 0x11 tag .state [] s
          else reply 0x11 tag .ok [] (resetCard k s)
      | _ => s) s)

/-- The position, first bus and bus count of WEAR_READ and WEAR_LOAD, checked (R95). -/
def wearRange (position first count : Byte) : Option CardId :=
  if count = 0 ∨ 8 < count.toNat ∨ 16 < first.toNat + count.toNat then none else readCard position

/-- The crosspoint places of buses `first` to `first + count - 1`, bus by bus and node by node. -/
def wearPlaces (first count : Byte) : List Nat := List.range' (32 * first.toNat) (32 * count.toNat)

/-- WEAR_READ (R95). -/
def execWearRead (tag : Byte) (body : List Byte) (s : State) : Answer :=
  .next (takeRequest 0x12 tag body
    (withLength 0x12 tag (decide (body.length = 3)) fun s =>
      match body with
      | [position, first, count] =>
        match wearRange position first count with
        | some k => reply 0x12 tag .ok ((wearPlaces first count).flatMap fun p => le24 (s.wearCount k p)) s
        | none => reply 0x12 tag .badValue [] s
      | _ => s) s)

/-- Counts written to places one after another. -/
def loadWear (k : CardId) (s : State) (x : Nat × List Byte) : State :=
  match x.2 with
  | [a, b, c] => setWear k x.1 (read24 a b c) s
  | _ => s

/-- WEAR_LOAD (R96); a body whose counts are not those of the buses named contradicts itself (notes/assumptions/11). -/
def execWearLoad (tag : Byte) (body : List Byte) (s : State) : Answer :=
  .next (takeRequest 0x13 tag body
    (withLength 0x13 tag (loadLength 3 96 body.length && decide (99 ≤ body.length ∧ body.length ≤ 771)) fun s =>
      match body with
      | position :: first :: count :: counts =>
        match wearRange position first count with
        | some k =>
          if counts.length ≠ 96 * count.toNat then reply 0x13 tag .badValue [] s
          else
            reply 0x13 tag .ok []
              (((wearPlaces first count).zip (chunks 3 (32 * count.toNat) counts)).foldl (loadWear k) s)
        | none => reply 0x13 tag .badValue [] s
      | _ => s) s)

/-! ### FETCH -/

/-- The oldest `k` records leave the posted list (R154). -/
def takeRecords (k : Nat) (s : State) : State := { s with queue := { s.queue with posted := s.queue.posted.drop k } }

/-- FETCH as the result queue takes it (R154). -/
def fetchRecords (tag : Byte) (n : Nat) (s : State) : State :=
  let out := s.queue.posted.take n
  let s := reply 0x24 tag .ok (u8 out.length ++ out.flatMap recordBytes) (takeRecords n s)
  if out.isEmpty then s else examineSpace s

/-- FETCH (R154). -/
def execFetch (tag : Byte) (body : List Byte) (s : State) : Answer :=
  .next (settle (takeRequest 0x24 tag body
    (withLength 0x24 tag (decide (body.length = 1)) fun s =>
      match body with
      | [n] => if n = 0 ∨ 16 < n.toNat then reply 0x24 tag .badValue [] s else fetchRecords tag n.toNat s
      | _ => s) s))

end Sys2Proof.Machine
end

