-- ==== Sys2Proof/Machine/SiteCommands.lean ====
section
/-! DEFINITION. The commands of the sites: SITE_SET, START, ABORT, MANUAL, DIRECT, SITE_CLEAR, variables and flags, and the
events that reach a runner: a safety order, the timers of its steps, a QUIET outcome and a grant (R16–R31, R35, R180,
R184–R188). -/

namespace Sys2Proof.Machine

/-! ### Requests -/

/-- A site's settings replaced (R24). -/
def setSettings (n : SiteId) (entry : Nat) (enable : Bool) (limit : BitVec 16) (s : State) : State :=
  s.setSite n { s.site n with entryStep := entry, startEnable := enable, watchdogLimit := limit }

/-- SITE_SET (R24). -/
def execSiteSet (tag : Byte) (body : List Byte) (s : State) : Answer :=
  .next (takeRequest 0x18 tag body
    (withLength 0x18 tag (decide (body.length = 6)) fun s =>
      match body with
      | [site, e0, e1, enable, l0, l1] =>
        match readSite site, readFlag enable with
        | some n, some on =>
          if 2047 < read16 e0 e1 then reply 0x18 tag .badValue [] s
          else reply 0x18 tag .ok [] (setSettings n (read16 e0 e1) on (BitVec.ofNat 16 (read16 l0 l1)) s)
        | _, _ => reply 0x18 tag .badValue [] s
      | _ => s) s)

/-- The entry field of START: a slot, or DEFAULT 0xFFFF for the site's entry step (R26, R194). -/
def readEntry (s : State) (n : SiteId) (lo hi : Byte) : Option Nat :=
  if read16 lo hi = 0xFFFF then some (s.site n).entryStep
  else if read16 lo hi < 2048 then some (read16 lo hi)
  else none

/-- START once its fields are in range (R26, checks 2 to 4; R27). -/
def startSite (tag : Byte) (n : SiteId) (slot : Nat) (clear : Bool) (s : State) : State :=
  if s.safe.holds then reply 0x19 tag .safe [] s
  else if (s.site n).state ≠ .idle then reply 0x19 tag .state [] s
  else if s.free ≤ s.runCount then reply 0x19 tag .noRoom [] s
  else
    let s := beginRun n slot clear s
    reply 0x19 tag .ok (le16 (s.site n).runNumber.toNat) s

/-- START (R26). -/
def execStart (tag : Byte) (body : List Byte) (s : State) : Answer :=
  .next (settle (takeRequest 0x19 tag body
    (withLength 0x19 tag (decide (body.length = 4)) fun s =>
      match body with
      | [site, e0, e1, clear] =>
        match readSite site, readFlag clear with
        | some n, some c =>
          match readEntry s n e0 e1 with
          | some slot => startSite tag n slot c s
          | none => reply 0x19 tag .badValue [] s
        | _, _ => reply 0x19 tag .badValue [] s
      | _ => s) s))

/-- A one-byte request that names a site. -/
def siteRequest (kind tag : Byte) (body : List Byte) (act : SiteId → State → State) (s : State) : State :=
  takeRequest kind tag body
    (withLength kind tag (decide (body.length = 1)) fun s =>
      match body with
      | [site] =>
        match readSite site with
        | some n => act n s
        | none => reply kind tag .badValue [] s
      | _ => s) s

/-- ABORT (R184): entry, then the reply, then the phases. -/
def execAbort (tag : Byte) (body : List Byte) (s : State) : Answer :=
  .next (settle (siteRequest 0x1A tag body (fun n s =>
    if s.works n then runTeardown n (reply 0x1A tag .ok [] (teardownEntry n .hostAbort none s))
    else reply 0x1A tag .state [] s) s))

/-- A site context as MANUAL takes it (R29, R178). -/
def Site.toManual (c : Site) : Site :=
  { c with
    state := .manual, phase := .noStep, current := none, cause := none, errorCode := none, teardownStep := none,
    hot := false, origin := none }

/-- MANUAL (R29). -/
def execManual (tag : Byte) (body : List Byte) (s : State) : Answer :=
  .next (siteRequest 0x1B tag body (fun n s =>
    if s.safe.holds then reply 0x1B tag .safe [] s
    else if (s.site n).state ≠ .idle then reply 0x1B tag .state [] s
    else reply 0x1B tag .ok [] (s.setSite n (s.site n).toManual)) s)

/-- A DIRECT step is taken (R30). -/
def directStep (tag : Byte) (n : SiteId) (r : StepRecord) (s : State) : State :=
  if s.safe.holds then reply 0x1C tag .safe [] s
  else if (s.site n).state ≠ .manual then reply 0x1C tag .state [] s
  else if (s.site n).inStep then reply 0x1C tag .busy [] s
  else
    performStep n r (reply 0x1C tag .ok []
      (s.setSite n { s.site n with current := some .direct, phase := .step, taking := some r }))

/-- DIRECT (R30). -/
def execDirect (tag : Byte) (body : List Byte) (s : State) : Answer :=
  .next (settle (takeRequest 0x1C tag body
    (withLength 0x1C tag (decide (body.length = 21)) fun s =>
      match body with
      | site :: record =>
        match readSite site, readStepRecord record with
        | some n, some r => directStep tag n r s
        | _, _ => reply 0x1C tag .badValue [] s
      | _ => s) s))

/-- SITE_CLEAR (R185). -/
def execSiteClear (tag : Byte) (body : List Byte) (s : State) : Answer :=
  .next (settle (siteRequest 0x1D tag body (fun n s =>
    if (s.site n).state = .manual then runTeardown n (reply 0x1D tag .ok [] (teardownEntry n .cleared none s))
    else reply 0x1D tag .state [] s) s))

/-- The range of a site variable (R22). -/
def variableRange (v : Int) : Bool := decide (-134217727 ≤ v ∧ v ≤ 134217727)

/-- A variable as VAR_SET leaves it (R22). -/
def writtenVariable (v : Int) (valid : Bool) : Variable := ⟨if valid then v else 0, valid⟩

/-- VAR_SET (R22). -/
def execVarSet (tag : Byte) (body : List Byte) (s : State) : Answer :=
  .next (takeRequest 0x1E tag body
    (withLength 0x1E tag (decide (body.length = 7)) fun s =>
      match body with
      | [site, index, v0, v1, v2, v3, valid] =>
        let v := signed32 (read32 v0 v1 v2 v3)
        match readSite site, readIndex8 index, readFlag valid with
        | some n, some k, some ok =>
          if !variableRange v then reply 0x1E tag .badValue [] s
          else if (s.site n).state = .run ∨ (s.site n).state = .teardown then reply 0x1E tag .state [] s
          else
            reply 0x1E tag .ok []
              (s.setSite n { s.site n with vars := (s.site n).vars.set k (writtenVariable v ok) })
        | _, _, _ => reply 0x1E tag .badValue [] s
      | _ => s) s)

/-- The eight variables of a site, each its value and valid flag (R23). -/
def variableBytes (c : Site) : List Byte := c.vars.toList.flatMap fun v => le32i v.value ++ flagByte v.valid

/-- VAR_READ (R23). -/
def execVarRead (tag : Byte) (body : List Byte) (s : State) : Answer :=
  .next (siteRequest 0x1F tag body (fun n s => reply 0x1F tag .ok (variableBytes (s.site n)) s) s)

/-- A waiting WAIT_FLAG tests its mask again (R18, R21). -/
def retestFlags (n : SiteId) (s : State) : State :=
  let c := s.site n
  match c.phase, c.taking with
  | .wait .flag, some ⟨_, _, _, .waitFlag mask mode _⟩ =>
    if maskSatisfied mode mask c.inFlags then flagsMatched n mask (resumeStep n s) else s
  | _, _ => s

/-- FLAG_RAISE (R21). -/
def execFlagRaise (tag : Byte) (body : List Byte) (s : State) : Answer :=
  .next (settle (takeRequest 0x20 tag body
    (withLength 0x20 tag (decide (body.length = 2)) fun s =>
      match body with
      | [site, mask] =>
        match readSite site with
        | some n =>
          retestFlags n (reply 0x20 tag .ok [] (s.setSite n { s.site n with inFlags := (s.site n).inFlags ||| mask }))
        | none => reply 0x20 tag .badValue [] s
      | _ => s) s))

/-- FLAG_CLEAR (R21). -/
def execFlagClear (tag : Byte) (body : List Byte) (s : State) : Answer :=
  .next (takeRequest 0x21 tag body
    (withLength 0x21 tag (decide (body.length = 3)) fun s =>
      match body with
      | [site, outMask, inMask] =>
        match readSite site with
        | some n =>
          reply 0x21 tag .ok [] (s.setSite n { s.site n with
            outFlags := (s.site n).outFlags &&& ~~~outMask, inFlags := (s.site n).inFlags &&& ~~~inMask })
        | none => reply 0x21 tag .badValue [] s
      | _ => s) s)

/-! ### Events at a runner -/

/-- SAFE_ORDER (R188): the oldest order on its way to the site is taken. DESIGN CHOICE: also when the safe state has been left
meanwhile (notes/assumptions/19). -/
def execSafeOrder (n : SiteId) (s : State) : Answer :=
  match s.orders[n] with
  | [] => .next s
  | cause :: rest => .next (settle (enterTeardown n cause none { s with orders := s.orders.set n rest }))

/-- DELAY_EXPIRY (R16). -/
def execDelayExpiry (n : SiteId) (s : State) : Answer :=
  match (s.site n).phase, (s.site n).stepTimer with
  | .wait .delay, some t => .next (whenRun t (fun s => settle (finishStep n false none s)) s)
  | _, _ => .next s

/-- WAIT_FLAG_TIMEOUT (R19). -/
def execWaitFlagTimeout (n : SiteId) (s : State) : Answer :=
  match (s.site n).phase, (s.site n).stepTimer with
  | .wait .flag, some t => .next (whenRun t (fun s => settle (finishStep n true none s)) s)
  | _, _ => .next s

/-- STEP_WATCHDOG_EXPIRY (R25, R198). -/
def execStepWatchdogExpiry (n : SiteId) (s : State) : Answer :=
  match (s.site n).state, (s.site n).watchdog with
  | .run, some t => 
    .next (whenRun t (fun s => settle (enterTeardown n .stepTimeout none (countWatchdog (.site n) s))) s)
  | _, _ => .next s

/-- The mask of one instrument. -/
def instBit (i : InstrId) : BitVec 6 := 1#6 <<< i.val

/-- An outcome of a source-off is taken at the runner (R180, R181). -/
def takeOutcome (n : SiteId) (i : InstrId) (o : QuietOutcome) (s : State) : State :=
  let c := s.site n
  if c.state = .teardown ∧ c.teardownPhase = some .quiet then
    let left := c.outstanding &&& ~~~(instBit i)
    let s := s.setSite n { c with outstanding := left, hot := c.hot || o != .acked }
    if left = 0 then breakPhase n s else s
  else s

/-- QUIET_OUTCOME (R180): the outcome that a port reports is taken. -/
def execQuietOutcome (i : InstrId) (s : State) : Answer :=
  match (s.port i).quietReport with
  | none => .next s
  | some (n, o) => .next (settle (takeOutcome n i o (s.setPort i { s.port i with quietReport := none })))

/-- GRANT_EVENT (R35): a site that holds the instrument and waits for it goes on; else the grant has no effect on the
site's step (notes/assumptions/12). -/
def execGrantEvent (n : SiteId) (i : InstrId) (s : State) : Answer :=
  match (s.site n).phase, (s.site n).taking with
  | .wait .lease, some ⟨_, _, _, .acquire j⟩ =>
    if j = i ∧ s.holds n i then .next (settle (finishStep n false none (resumeStep n s))) else .next s
  | _, _ => .next s

end Sys2Proof.Machine
end

