-- ==== Sys2Proof/Machine/ChainCommands.lean ====
section
/-! DEFINITION. The events of the route timers and of the relay chain: MAKE_TIMER_EXPIRY, RELEASE_TIMER_EXPIRY, DISCOVERY_END,
WRITE_FRAME_SENT, LATCH, READ_FRAME_ANSWER and REFRESH_EXPIRY (R62, R67, R80, R82–R84, R88). -/

namespace Sys2Proof.Machine

/-- MAKE_TIMER_EXPIRY (R62). -/
def execMakeTimerExpiry (e : EntryId) (s : State) : Answer :=
  match s.route e with
  | some r =>
    match r.state, r.timer with
    | .making, some t => .next (whenRun t (fun s => settle (routeMade e r s)) s)
    | _, _ => .next s
  | none => .next s

/-- RELEASE_TIMER_EXPIRY (R67). -/
def execReleaseTimerExpiry (e : EntryId) (s : State) : Answer :=
  match s.route e with
  | some r =>
    match r.state, r.timer with
    | .breaking, some t => .next (whenRun t (fun s => settle (routeGone e r s)) s)
    | _, _ => .next s
  | none => .next s

/-- A position's entry as its answer to discovery leaves it (R80, steps 3 and 4). -/
def discoverCard (k : CardId) (answer : Option CardAnswer) (s : State) : State :=
  let c := { s.card k with latched := 0, relearn := false }
  match answer with
  | none => s.setCard k { c with state := .absent, id := none }
  | some a =>
    if a.bits = 0 then s.setCard k { c with state := .active, id := some a.id }
    else
      let s := cardFault k .readback c.id (some a.id) (setPlaces a.bits) 0 (s.setCard k c)
      s.setCard k { s.card k with id := some a.id }

/-- DISCOVERY_END (R80): the entries by the answers, IDLE, and the pass that is owed. -/
def execDiscoveryEnd (answers : Vector (Option CardAnswer) 16) (s : State) : Answer :=
  if s.chain.phase = .discovery then
    let s := allCards.foldl (fun (s : State) (k : CardId) => discoverCard k answers[k] s) s
    .next (settle (chainKick (s.setChain { s.chain with phase := .idle, lastWrite := some (15, 0) })))
  else .next s

/-- WRITE_FRAME_SENT (R82): the frame of the next present position has been sent; after the last one the phase is LATCH. -/
def execWriteFrameSent (s : State) : Answer :=
  if s.chain.phase = .shift then
    match s.nextPresent s.chain.cursor with
    | some k =>
      let last := (s.nextPresent (k.val + 1)).isNone
      .next (s.setChain { s.chain with
        lastWrite := some (k, s.chain.snapshot[k])
        cursor := k.val + 1
        phase := if last then .latch else .shift })
    | none => .next (s.setChain { s.chain with phase := .latch })
  else .next s

/-- The crosspoints that a latch closes: open in the old latched record, closed in the new (R83). -/
def closings (c : Card) (new : BitVec 512) : BitVec 512 := if c.present then new &&& ~~~c.latched else 0

/-- LATCH (R83); with no position present the pass completes at once (R86). -/
def execLatch (s : State) : Answer :=
  if s.chain.phase = .latch then
    let ch := s.chain
    let s := s.setChain { ch with
      noted := Vector.ofFn fun k => closings ch.cards[k] ch.snapshot[k]
      cards := Vector.ofFn fun k =>
        if ch.cards[k].present then { ch.cards[k] with latched := ch.snapshot[k] } else ch.cards[k]
      cursor := 0
      phase := .verify }
    match s.nextPresent 0 with
    | some _ => .next s
    | none => .next (settle (completePass s))
  else .next s

/-- READ_FRAME_ANSWER (R84): the answer of the next present position is judged when the verify set holds it; after the last
one the pass completes (R86). -/
def execReadFrameAnswer (answer : Option CardAnswer) (s : State) : Answer :=
  if s.chain.phase = .verify then
    match s.nextPresent s.chain.cursor with
    | some k =>
      let judged := s.chain.verifySet.getLsbD k.val
      let s := s.setChain { s.chain with cursor := k.val + 1 }
      let s := if judged then judgeCard k answer s else s
      match s.nextPresent (k.val + 1) with
      | some _ => .next (settle s)
      | none => .next (settle (completePass s))
    | none => .next (settle (completePass s))
  else .next s

/-- REFRESH_EXPIRY (R88). -/
def execRefreshExpiry (s : State) : Answer :=
  match s.chain.refresh with
  | some t =>
    if s.chain.interval = 0 then .next s
    else
      .next (whenRun t (fun s => chainKick (s.setChain { s.chain with
        passDue := true, refresh := limitTimer s.time s.chain.interval.toNat })) s)
  | none => .next s

end Sys2Proof.Machine
end

