-- ==== Sys2Proof/Machine/PortCommands.lean ====
section
/-! DEFINITION. The commands of the instrument ports: INSTR_SET, the adapter's messages, the response and probe timers, the
end of a CANCEL, RDY and the trigger (R46, R100–R112). -/

namespace Sys2Proof.Machine

/-! ### INSTR_SET -/

/-- The buses that the other instruments' records claim (R45). -/
def State.claimedByOthers (s : State) (i : InstrId) : List BusId :=
  (allInsts.filter (· != i)).flatMap fun j => (s.record j).buses

/-- Check 3 of INSTR_SET: the new record's claims are distinct and free of the others' (R46). -/
def claimsSound (s : State) (i : InstrId) (r : InstrRecord) : Bool :=
  decide r.buses.Nodup && r.buses.all fun b => !(s.claimedByOthers i).contains b

/-- The source state after an INSTR_SET (R113). -/
def sourceAfterSet (old new : InstrRecord) (x : SourceState) : SourceState :=
  if !new.sourceCapable then .off else if old.sourceCapable then x else .unknown

/-- A port goes to DISABLED: its exchange is dropped (R104). -/
def disablePort (i : InstrId) (s : State) : State :=
  let p := s.port i
  let s := s.setPort i { p with
    state := .disabled, awaited := none, user := none, outstanding := none, respTimer := none, probeTimer := none,
    spacing := none, sentConfig := none, rxBytes := [] }
  let s := portNotice i .disabled s
  if p.state = .command then portFreed i s else s

/-- An accepted INSTR_SET (R46, R104, R113). -/
def replaceRecord (i : InstrId) (r : InstrRecord) (s : State) : State :=
  let old := s.record i
  let s : State := { s with records := s.records.set i r }
  let s := s.setPort i { s.port i with source := sourceAfterSet old r (s.port i).source }
  if r.enable then
    if (s.port i).state = .disabled then sendHello i s else s
  else if (s.port i).state = .disabled then s
  else disablePort i s

/-- INSTR_SET (R46). DESIGN CHOICE: the PORT notice of a port that it disables is queued before the OK reply
(notes/assumptions/43). -/
def execInstrSet (tag : Byte) (body : List Byte) (s : State) : Answer :=
  .next (settle (takeRequest 0x0E tag body
    (withLength 0x0E tag (decide (body.length = 11)) fun s =>
      match body with
      | inst :: fields =>
        match readInst inst, readInstrRecord fields with
        | some i, some r =>
          if (s.lease i).holder.isSome then reply 0x0E tag .state [] s
          else if !claimsSound s i r then reply 0x0E tag .badValue [] s
          else reply 0x0E tag .ok [] (replaceRecord i r s)
        | _, _ => reply 0x0E tag .badValue [] s
      | _ => s) s))

/-! ### Answers (R102, R106) -/

/-- The body length of a kind that the adapter sends (R205). -/
def answerLength (kind : Byte) : Option Nat :=
  match kind.toNat with
  | 0x81 => some 0
  | 0x82 => some 1
  | 0x83 => some 4
  | 0x84 => some 6
  | _ => none

/-- The kinds that an awaited message expects (R101). -/
def Awaited.expects (a : Awaited) (kind : Byte) : Bool :=
  match a with
  | .hello => kind == 0x84
  | .config | .outputOn | .outputOff => kind == 0x81 || kind == 0x82
  | .read => kind == 0x83
  | .cancel => false

/-- A sound message is accepted (R102, R205). -/
def Port.accepts (p : Port) (m : PortMessage) : Bool :=
  answerLength m.kind == some m.body.length && p.outstanding == some m.seq &&
    p.awaited.any fun a => a.expects m.kind

/-- The last configuration and the source state after an accepted ACK (R106, R113). -/
def ackEffect (i : InstrId) (p : Port) (s : State) : State :=
  match p.awaited with
  | some .config => s.setPort i { s.port i with lastConfig := p.sentConfig }
  | some .outputOn => setSource i .on s
  | some .outputOff => setSource i .off s
  | _ => s

/-- The user's step or action completes (R106, R117). -/
def userDone (i : InstrId) (user : Option PortUser) (s : State) : State :=
  match user with
  | some (.site n) => finishStep n false none s
  | some (.teardown n) => reportQuiet i n .acked s
  | some .bringUp | some .softReset | none => s

/-- The user's step ends with a step error, or its teardown hears an outcome (R106, R107, R109, R117). -/
def userFails (i : InstrId) (user : Option PortUser) (err : StepError) (o : QuietOutcome) (s : State) : State :=
  match user with
  | some (.site n) => stepError n err s
  | some (.teardown n) => reportQuiet i n o s
  | some .bringUp | some .softReset | none => s

/-- ACK accepted (R106). -/
def ackAccepted (i : InstrId) (s : State) : State :=
  let p := s.port i
  portFreed i (userDone i p.user (ackEffect i p (answerAccepted i s)))

/-- NAK accepted (R106). -/
def nakAccepted (i : InstrId) (reason : Byte) (s : State) : State :=
  let p := s.port i
  let s := countPort i .nak (answerAccepted i s)
  let s := outputFailed i p.awaited (s.setPort i { s.port i with lastNak := some reason })
  portFreed i (userFails i p.user .nak .naked s)

/-- VALUE accepted (R111): the cycle ends and the sample is handed over. -/
def valueAccepted (i : InstrId) (code : Int) (status : Byte) (s : State) : State :=
  let p := s.port i
  let s := answerAccepted i s
  match p.user with
  | some (.site n) =>
    takeSample n i code (status.getLsbD 0) (status.getLsbD 1) p.triggerStamp (p.readyStamp - p.triggerStamp) s
  | _ => s

/-- IDENT accepted (R105, R107). DESIGN CHOICE: the PORT notice stands before what the steps that wait for the port do when it
has left COMMAND (notes/assumptions/44). -/
def identAccepted (i : InstrId) (x : IdentFields) (s : State) : State :=
  let p := s.port i
  let s := answerAccepted i s
  let s := s.setPort i { s.port i with lastIdent := some x, probeTimer := none }
  let s := portNotice i (if p.state = .offline then .found else .enabled) s
  if p.state = .command then portFreed i s else s

/-- A sound message of the adapter (R102). -/
def soundMessage (i : InstrId) (m : PortMessage) (s : State) : State :=
  if (s.port i).accepts m then
    match m.kind.toNat, m.body with
    | 0x81, [] => ackAccepted i s
    | 0x82, [reason] => nakAccepted i reason s
    | 0x83, [c0, c1, c2, status] => valueAccepted i (signed24 (read24 c0 c1 c2)) status s
    | 0x84, [type, revision, s0, s1, s2, s3] =>
      identAccepted i ⟨type, revision, BitVec.ofNat 32 (read32 s0 s1 s2 s3)⟩ s
    | _, _ => s
  else countPort i .stale s

/-! ### Failures (R105, R107, R109) -/

/-- Where the CANCEL of a failed exchange leads (R105, R107). -/
def failedEnd (user : Option PortUser) (failures : Nat) (f : PortFailure) : CancelEnd :=
  if user = some .bringUp then .noAnswer else if 3 ≤ failures then .lost f else .idle

/-- The failure count after one more failure: 0–3 (R103). -/
def moreFailures (n : Nat) : Nat := min (n + 1) 3

/-- The response timer has expired (R107). -/
def exchangeTimedOut (i : InstrId) (s : State) : State :=
  let p := s.port i
  let failures := moreFailures p.failures
  let s := countPort i .timeout s
  let s := outputFailed i p.awaited (s.setPort i { s.port i with failures := failures })
  let s := sendCancel i (failedEnd p.user failures .timeout) s
  userFails i p.user .timeout .timedOut s

/-- A bad checksum counts against the exchange (R109). -/
def Port.countsChecksum (p : Port) : Bool := (p.state == .command && p.awaits) || p.state == .fetching

/-- A message that is complete and not sound (R109, R105). DEDUCED: in a bring-up whose failure count stands at 3 already the
count stays at 3 and the bring-up ends at once (notes/assumptions/34). -/
def badChecksum (i : InstrId) (s : State) : State :=
  let s := countPort i .checksum s
  let p := s.port i
  if p.countsChecksum then
    let failures := moreFailures p.failures
    let s := s.setPort i { p with failures := failures }
    if failures = 3 then
      let s := sendCancel i (failedEnd p.user 3 .checksum) (outputFailed i p.awaited s)
      userFails i p.user .offline .timedOut s
    else s
  else s

/-! ### The receiver of a port (R99, R100) -/

/-- What the port's receiver finds. -/
def portEvent (i : InstrId) (s : State) : PortEvent → State
  | .sound m => soundMessage i m s
  | .badChecksum => badChecksum i s

/-- What one byte brings to the end, in order; a message that the port begins to send discards the rest (R100;
notes/assumptions/16). -/
def portEvents (i : InstrId) : List PortEvent → State → State
  | [], s => s
  | e :: rest, s =>
    let s' := portEvent i s e
    if (s'.port i).seq = (s.port i).seq then portEvents i rest s' else s'

/-- One byte arrives on PnRXD; a DISABLED port ignores it. DESIGN CHOICE: every message found in the bytes is judged before the
step that an accepted one ends is followed by the next (notes/assumptions/16). -/
def portByte (i : InstrId) (s : State) (b : Byte) : State :=
  let p := s.port i
  if p.state = .disabled then s
  else
    let found := huntMessages (p.rxBytes ++ [b])
    let s := s.setPort i { p with rxBytes := found.2 }
    settle (portEvents i found.1 s)

/-- Bytes arrive on PnRXD. -/
def portReceive (i : InstrId) (bytes : List Byte) (s : State) : State := bytes.foldl (portByte i) s

/-- PORT_ACK (R106): the bytes of the message arrive. -/
def execPortAck (i : InstrId) (seq : Byte) (body : List Byte) (s : State) : Answer :=
  .next (portReceive i (messageBytes ⟨0x81, seq, body⟩) s)

/-- PORT_NAK (R106). -/
def execPortNak (i : InstrId) (seq : Byte) (body : List Byte) (s : State) : Answer :=
  .next (portReceive i (messageBytes ⟨0x82, seq, body⟩) s)

/-- PORT_VALUE (R111). -/
def execPortValue (i : InstrId) (seq : Byte) (body : List Byte) (s : State) : Answer :=
  .next (portReceive i (messageBytes ⟨0x83, seq, body⟩) s)

/-- PORT_IDENT (R105, R107). -/
def execPortIdent (i : InstrId) (seq : Byte) (body : List Byte) (s : State) : Answer :=
  .next (portReceive i (messageBytes ⟨0x84, seq, body⟩) s)

/-- PORT_UNKNOWN_KIND_MESSAGE (R102): a kind the port does not know is discarded as STALE. -/
def execPortUnknownKindMessage (i : InstrId) (kind seq : Byte) (body : List Byte) (s : State) : Answer :=
  .next (portReceive i (messageBytes ⟨kind, seq, body⟩) s)

/-- PORT_BAD_CHECKSUM (R109): the bytes arrive. -/
def execPortBadChecksum (i : InstrId) (bytes : List Byte) (s : State) : Answer := .next (portReceive i bytes s)

/-! ### Timers and the CANCEL -/

/-- RESPONSE_TIMEOUT (R107). -/
def execResponseTimeout (i : InstrId) (s : State) : Answer :=
  match (s.port i).respTimer with
  | some t =>
    if (s.port i).engaged then .next (whenRun t (fun s => settle (exchangeTimedOut i s)) s) else .next s
  | none => .next s

/-- A port goes to OFFLINE at the end of a CANCEL (R105, R107). -/
def goOffline (i : InstrId) (cause : PortCause) (s : State) : State :=
  portNotice i cause (s.setPort i { s.port i with
    state := .offline, awaited := none, user := none, outstanding := none, probeTimer := some ⟨s.time, 1000000⟩ })

/-- The last byte of a CANCEL has left the line (R105, R107). DESIGN CHOICE: the PORT notice of a port that goes OFFLINE stands
before what the steps that wait for the port do (notes/assumptions/44). -/
def cancelEnded (i : InstrId) (s : State) : State :=
  let s :=
    match (s.port i).cancelEnd with
    | .idle => s.setPort i { s.port i with state := .idle, awaited := none }
    | .lost f => goOffline i (.lost f) (countPort i .lostLink s)
    | .noAnswer => goOffline i .noAnswer s
  portFreed i s

/-- CANCEL_SENT (R107, R108). -/
def execCancelSent (i : InstrId) (s : State) : Answer :=
  if (s.port i).state = .command ∧ (s.port i).awaited = some .cancel then .next (settle (cancelEnded i s))
  else .next s

/-- A HELLO probe of an OFFLINE port (R107). -/
def sendProbe (i : InstrId) (s : State) : State :=
  let s := transmit i 0x01 helloBody s
  s.setPort i { s.port i with
    awaited := some .hello, outstanding := some (s.port i).seq, probeTimer := some ⟨s.time, 1000000⟩ }

/-- PROBE_TIMER_EXPIRY (R107). -/
def execProbeTimerExpiry (i : InstrId) (s : State) : Answer :=
  match (s.port i).state, (s.port i).probeTimer with
  | .offline, some t => .next (whenRun t (sendProbe i) s)
  | _, _ => .next s

/-! ### RDY and TRIG -/

/-- The filtered RDY level changes (R110); in TRIGGERED a fall sets the mark and a rise with the mark sends READ (R111). -/
def rdyChanged (i : InstrId) (level : Bool) (s : State) : State :=
  let p := s.port i
  let s := s.setPort i { p with filteredRdy := level }
  if p.state = .triggered then
    if !level then s.setPort i { s.port i with mark := true }
    else if p.mark then sendRead i (s.setPort i { s.port i with readyStamp := s.time })
    else s
  else s

/-- RDY_RAW_CHANGE (R110). -/
def execRdyRawChange (i : InstrId) (level : Bool) (s : State) : Answer :=
  let p := s.port i
  if level = p.rawRdy then .next s
  else
    let s' := s.setPort i { p with rawRdy := level, rdyChange := s.time }
    if (s.record i).rdyFilter = 0 ∧ level ≠ p.filteredRdy then .next (rdyChanged i level s') else .next s'

/-- RDY_FILTERED_CHANGE (R110). -/
def execRdyFilteredChange (i : InstrId) (s : State) : Answer :=
  let p := s.port i
  if p.rawRdy = p.filteredRdy then .next s
  else .next (whenRun ⟨p.rdyChange, (s.record i).rdyFilter.toNat⟩ (rdyChanged i p.rawRdy) s)

/-- TRIGGER_PULSE_END (R99, R111). -/
def execTriggerPulseEnd (i : InstrId) (s : State) : Answer :=
  match (s.port i).pulse with
  | some t =>
    .next (whenRun t (fun s => s.setPort i { s.port i with pulse := none }) s)
  | none => .next s

/-- TRIGGER_SPACING (R112). -/
def execTriggerSpacing (i : InstrId) (s : State) : Answer :=
  match (s.port i).spacing with
  | some (n, t) => if (s.port i).state = .idle then .next (whenRun t (giveTrigger n i) s) else .next s
  | none => .next s

end Sys2Proof.Machine
end

