-- ==== Sys2Proof/Machine/FixtureCommands.lean ====
section
/-! DEFINITION. The commands of the fixture monitor: input lines and INPUTS_SET, the identity and its loads, the fixture memory
(R158–R176). -/

namespace Sys2Proof.Machine

/-! ### Input lines -/

/-- INPUT_RAW_CHANGE (R159); with a filter time of 0 the change is due at once. -/
def execInputRawChange (l : LineId) (level : Bool) (s : State) : Answer :=
  let x := s.line l
  if level = x.raw then .next s
  else
    let x' := { x with raw := level, lastChange := s.time }
    let s' := s.setLine l x'
    if x'.due s.time then .next (settle (judgeLine l true s')) else .next s'

/-- The pending change of a line becomes due and is judged (R159). -/
def changeDue (l : LineId) (s : State) : State :=
  match (s.line l).wait with
  | some t => whenRun t (fun s => settle (judgeLine l true s)) s
  | none => s

/-- SEAT_CHANGE (R161). -/
def execSeatChange (n : SiteId) (s : State) : Answer := .next (changeDue (seatLine n) s)

/-- START_CHANGE (R161, R28). -/
def execStartChange (n : SiteId) (s : State) : Answer := .next (changeDue (startLine n) s)

/-- A change of LID in one direction: none is accepted while the engine is BUSY (R159). -/
def lidDue (toClosed : Bool) (s : State) : State :=
  let x := s.line lidLine
  if s.fixture.busy ∨ (x.raw == x.polarity) ≠ toClosed then s else changeDue lidLine s

/-- LID_OPEN (R166). -/
def execLidOpen (s : State) : Answer := .next (lidDue false s)

/-- LID_CLOSE (R167). -/
def execLidClose (s : State) : Answer := .next (lidDue true s)

/-- The settings of one line in INPUTS_SET: filter time, polarity, edge select (R162; notes/assumptions/13). -/
structure LineSettings where
  filter : Byte
  polarity : Bool
  edge : EdgeSelect
  deriving DecidableEq, Repr

def readLineSettings : List Byte → Option LineSettings
  | [filter, polarity, edge] =>
    match readFlag polarity, readFlag edge with
    | some p, some e => some ⟨filter, !p, if e then .release else .press⟩
    | _, _ => none
  | _ => none

/-- Every line's settings replaced (R162, step 1). -/
def replaceSettings (xs : List LineSettings) (s : State) : State :=
  { s with
    lines := Vector.ofFn fun l =>
      match xs[l.val]? with
      | some x => { s.lines[l] with filter := x.filter, polarity := x.polarity, edge := x.edge }
      | none => s.lines[l] }

/-- Each line is judged again under its new settings, in line order (R162, step 2). -/
def rejudgeLines (s : State) : State := allLines.foldl (fun s l => judgeLine l false s) s

/-- INPUTS_SET (R162). -/
def execInputsSet (tag : Byte) (body : List Byte) (s : State) : Answer :=
  .next (settle (takeRequest 0x2F tag body
    (withLength 0x2F tag (decide (body.length = 51)) fun s =>
      match (chunks 3 17 body).mapM readLineSettings with
      | some xs => reply 0x2F tag .ok [] (rejudgeLines (replaceSettings xs s))
      | none => reply 0x2F tag .badValue [] s) s))

/-! ### Loads -/

/-- A load ends (R169); `cause` is none for VALID. -/
def endLoad (held : Option Identity) (cause : Option LoadCause) (s : State) : State :=
  let s := s.setFixture { s.fixture with
    held := held, state := if cause = none then .valid else .invalid, loadCause := cause, loadStep := none,
    headerBytes := [], busy := false }
  lidTest (judgeAll (fixtureNotice s))

/-- The last command of the engine fails with NOACK (R174). -/
def noAck (s : State) : State := s.setFixture { s.fixture with error := some .noAck }

/-- What the engine does on the bus from here on joins what it has done (R174). -/
def busDone (items : List BusItem) (s : State) : State := s.setFixture { s.fixture with sent := s.fixture.sent ++ items }

/-- A load's read ends at a byte that is not acknowledged (R168, R174); `before` are the items of the load's earlier read. -/
def loadRefused (before : Nat) (k : Fin 4) (s : State) : State :=
  noAck (s.setFixture { s.fixture with sent := cutItems (before + k) s.fixture.sent })

/-- The HEADER read has brought its nine bytes (R168). -/
def headerRead (bytes : List Byte) (h : IdentityHeader) (s : State) : State :=
  match headerCheck h with
  | some cause => endLoad (some ⟨h, none⟩) (some cause) s
  | none =>
    s.setFixture { s.fixture with
      sent := s.fixture.sent ++ readItems 9, loadStep := some .body, headerBytes := bytes,
      lastCommand := some (.loadBody, 9, 4 * h.siteCount.toNat + 2), error := none }

/-- LOAD_HEADER_DONE (R168, R169). -/
def execLoadHeaderDone (answer : MemoryAnswer) (s : State) : Answer :=
  if s.fixture.state = .loading ∧ s.fixture.loadStep = some .header then
    match answer with
    | .refused k => .next (settle (endLoad none (some .noAck) (loadRefused 0 k s)))
    | .bytes bytes =>
      match readHeader bytes with
      | some h => .next (settle (headerRead bytes h (busDone (collectItems 9) s)))
      | none => .next s
  else .next s

/-- The BODY read has brought its bytes (R168, R169). -/
def bodyRead (h : IdentityHeader) (bytes : List Byte) (body : List Window × BitVec 16) (s : State) : State :=
  endLoad (some ⟨h, some body⟩)
    (bodyCheck (s.fixture.headerBytes ++ bytes.take (4 * h.siteCount.toNat)) body) s

/-- LOAD_BODY_DONE (R168, R169). -/
def execLoadBodyDone (answer : MemoryAnswer) (s : State) : Answer :=
  if s.fixture.state = .loading ∧ s.fixture.loadStep = some .body then
    match readHeader s.fixture.headerBytes, answer with
    | some h, .refused k => .next (settle (endLoad (some ⟨h, none⟩) (some .noAck) (loadRefused 4 k s)))
    | some h, .bytes bytes =>
      match readIdentityBody h.siteCount.toNat bytes with
      | some body =>
        .next (settle (bodyRead h bytes body (busDone (collectItems (4 * h.siteCount.toNat + 2)) s)))
      | none => .next s
    | none, _ => .next s
  else .next s

/-! ### The identity by request -/

/-- FIXTURE_READ (R171). -/
def execFixtureRead (tag : Byte) (body : List Byte) (s : State) : Answer :=
  .next (plainRequest 0x28 tag body (fun s => reply 0x28 tag .ok (fixtureReply s) s) s)

/-- A whole identity record that passes R164, or none (R163, R172). -/
def readIdentity (bytes : List Byte) : Option Identity :=
  match readHeader (bytes.take 9) with
  | some h =>
    match headerCheck h, readIdentityBody h.siteCount.toNat (bytes.drop 9) with
    | none, some body =>
      if bodyCheck (bytes.take (9 + 4 * h.siteCount.toNat)) body = none then some ⟨h, some body⟩ else none
    | _, _ => none
  | none => none

/-- A host-supplied identity is put in force (R172). -/
def putEmulated (i : Identity) (s : State) : State :=
  judgeAll (fixtureNotice (s.setFixture { s.fixture with held := some i, state := .emulated, loadCause := none }))

/-- FIXTURE_DEFINE (R172). -/
def execFixtureDefine (tag : Byte) (body : List Byte) (s : State) : Answer :=
  .next (takeRequest 0x29 tag body
    (withLength 0x29 tag (decide (body.length ∈ [15, 19, 23, 27, 31, 35, 39, 43])) fun s =>
      match readIdentity body with
      | none => reply 0x29 tag .badValue [] s
      | some i =>
        if s.fixture.state = .loading then reply 0x29 tag .busy [] s
        else if s.anyBusySite then reply 0x29 tag .state [] s
        else reply 0x29 tag .ok [] (putEmulated i s)) s)

/-- FIXTURE_RELOAD once its checks have passed (R173). -/
def reloadFixture (s : State) : State :=
  if s.lidClosed then judgeAll (beginLoad s)
  else
    judgeAll (fixtureNotice (s.setFixture { s.fixture with held := none, loadCause := none, state := .noIdentity }))

/-- FIXTURE_RELOAD (R173). -/
def execFixtureReload (tag : Byte) (body : List Byte) (s : State) : Answer :=
  .next (plainRequest 0x2A tag body (fun s =>
    if s.fixture.state = .loading then reply 0x2A tag .busy [] s
    else if s.anyBusySite then reply 0x2A tag .state [] s
    else if s.fixture.owner = .link then reply 0x2A tag .state [] s
    else reloadFixture (reply 0x2A tag .ok [] s)) s)

/-! ### The fixture memory by request -/

/-- FIXMEM_TAKE (R175). -/
def execFixmemTake (tag : Byte) (body : List Byte) (s : State) : Answer :=
  .next (plainRequest 0x2B tag body (fun s =>
    if s.lidClosed then reply 0x2B tag .state [] s
    else if s.anyBusySite then reply 0x2B tag .state [] s
    else reply 0x2B tag .ok [] (s.setFixture { s.fixture with owner := .link })) s)

/-- FIXMEM_GIVE (R175). -/
def execFixmemGive (tag : Byte) (body : List Byte) (s : State) : Answer :=
  .next (plainRequest 0x2C tag body (fun s =>
    if s.fixture.owner = .link then reply 0x2C tag .ok [] (s.setFixture { s.fixture with owner := .monitor })
    else reply 0x2C tag .notOwner [] s) s)

/-- The cause byte of MEMORY_ERROR (R196). -/
def memoryCause : EngineError → Byte
  | .noAck => 0x01
  | .range => 0x02

/-- A FIXMEM command is taken (R176, steps 3 and 4): the last command is set and the error cleared; outside the memory or
across pages it ends with RANGE; else its transfer runs, with `items` on the bus, and the request stays in progress. -/
def takeMemory (kind tag : Byte) (command : EngineCommand) (transfer : Transfer) (items : List BusItem)
    (address length : Nat) (crosses : Bool) (s : State) : State :=
  let s := s.setFixture { s.fixture with lastCommand := some (command, address, length), error := none }
  if 2048 < address + length ∨ crosses = true then
    reply kind tag .memoryError [memoryCause .range] (s.setFixture { s.fixture with error := some .range })
  else
    let s := s.setFixture { s.fixture with busy := true, transfer := some transfer, sent := items }
    s.setLink { s.link with inProgress := some (.fixmem kind tag) }

/-- FIXMEM_READ (R176). -/
def execFixmemRead (tag : Byte) (body : List Byte) (s : State) : Answer :=
  .next (takeRequest 0x2D tag body
    (withLength 0x2D tag (decide (body.length = 3)) fun s =>
      match body with
      | [a0, a1, length] =>
        if 2047 < read16 a0 a1 ∨ length = 0 ∨ 64 < length.toNat then reply 0x2D tag .badValue [] s
        else if s.fixture.owner ≠ .link then reply 0x2D tag .notOwner [] s
        else
          takeMemory 0x2D tag .read (.read length.toNat) (readItems (read16 a0 a1)) (read16 a0 a1) length.toNat false s
      | _ => s) s)

/-- The first and last byte of a write lie in different pages (R176). -/
def crossesPage (address length : Nat) : Bool := decide (address / 16 ≠ (address + length - 1) / 16)

/-- FIXMEM_WRITE (R176). -/
def execFixmemWrite (tag : Byte) (body : List Byte) (s : State) : Answer :=
  .next (takeRequest 0x2E tag body
    (withLength 0x2E tag (decide (2 ≤ body.length)) fun s =>
      match body with
      | a0 :: a1 :: data =>
        if 2047 < read16 a0 a1 ∨ data = [] ∨ 16 < data.length then reply 0x2E tag .badValue [] s
        else if s.fixture.owner ≠ .link then reply 0x2E tag .notOwner [] s
        else
          takeMemory 0x2E tag .write (.write data.length) (writeItems (read16 a0 a1) data) (read16 a0 a1) data.length
            (crossesPage (read16 a0 a1) data.length) s
      | _ => s) s)

/-- A FIXMEM transfer ends: its reply is queued, then the engine becomes IDLE (R176, R159). -/
def endTransfer (error : Option EngineError) (status : Status) (fields : List Byte) (s : State) : State :=
  match s.link.inProgress with
  | some (.fixmem kind tag) =>
    let s := s.setFixture { s.fixture with error := error }
    let s := reply kind tag status fields (s.setLink { s.link with inProgress := none })
    engineIdle s
  | _ => s

/-- A transfer ends at its byte number `k`, which the memory did not acknowledge (R174). -/
def transferRefused (k : Nat) (s : State) : State :=
  s.setFixture { s.fixture with sent := cutItems k s.fixture.sent }

/-- FIXMEM_READ_DONE (R176). -/
def execFixmemReadDone (answer : MemoryAnswer) (s : State) : Answer :=
  match s.fixture.transfer, answer with
  | some (.read _), .refused k =>
    .next (settle (endTransfer (some .noAck) .memoryError [memoryCause .noAck] (transferRefused k s)))
  | some (.read length), .bytes data =>
    if data.length = length then .next (settle (endTransfer none .ok data (busDone (collectItems length) s)))
    else .next s
  | _, _ => .next s

/-- The fields of a write's NOACK: the data bytes acknowledged and the write-cycle mark (R176). -/
def writeError (acked : Nat) (writeCycle : Bool) : List Byte := [memoryCause .noAck] ++ u8 acked ++ flagByte writeCycle

/-- FIXMEM_WRITE_DONE (R174, R176): every byte acknowledged, the write cycle begins at the stop and its first poll follows
after 500 µs; else the write ends with NOACK at its byte number `k`, behind `k - 3` acknowledged data bytes. -/
def execFixmemWriteDone (refused : Option Nat) (s : State) : Answer :=
  match s.fixture.transfer, refused with
  | some (.write length), none =>
    let s := busDone [.stop] s
    .next (s.setFixture { s.fixture with transfer := some (.poll length 0 ⟨s.time, 500⟩) })
  | some (.write length), some k =>
    if k < length + 3 then
      .next (settle (endTransfer (some .noAck) .memoryError (writeError (k - 3) false) (transferRefused k s)))
    else .next s
  | _, _ => .next s

/-- What one poll does, its answer known (R174): an acknowledged poll ends the write; the twentieth that is not ends it with
NOACK and the write-cycle mark; else the next follows 500 µs after this one. -/
def pollAnswered (ack : Bool) (length polls : Nat) (t : Timer) (s : State) : State :=
  let s := busDone pollItems s
  if ack then settle (endTransfer none .ok [] s)
  else if 20 ≤ polls + 1 then settle (endTransfer (some .noAck) .memoryError (writeError length true) s)
  else s.setFixture { s.fixture with transfer := some (.poll length (polls + 1) ⟨t.expiry, 500⟩) }

/-- FIXMEM_WRITE_POLL (R174). -/
def execFixmemWritePoll (ack : Bool) (s : State) : Answer :=
  match s.fixture.transfer with
  | some (.poll length polls t) => .next (whenRun t (pollAnswered ack length polls t) s)
  | _ => .next s

end Sys2Proof.Machine
end

