-- ==== Sys2Proof/Machine/ResetCommands.lean ====
section
/-! DEFINITION. The two resets: POWER_ON_RESET, and the effect of SOFT_RESET (R202, R203 and the reset rules of every
chapter). -/

namespace Sys2Proof.Machine

/-! ### Power-on -/

/-- The initial state of LID is handed to the safety controller, and a load begins when it reads closed (R177, R186). -/
def lidAtReset (s : State) : State :=
  if s.lidClosed then beginLoad s else { s with safe := { s.safe with lid := true } }

/-- The rate code of the straps (R204). -/
def rateOf (rate1 rate0 : Bool) : Fin 4 :=
  match rate1, rate0 with
  | false, false => 0
  | false, true => 1
  | true, false => 2
  | true, true => 3

/-- POWER_ON_RESET (R1 and the power-on columns). The commands that wait are the model's own and stay. -/
def execPowerOnReset (rate1 rate0 : Bool) (lines : BitVec 17) (rdy : BitVec 6) (s : State) : Answer :=
  .next { lidAtReset (State.powerOnValues (rateOf rate1 rate0) lines rdy) with
    freeIndex := s.freeIndex, pending := s.pending }

/-! ### Soft reset, part by part (R203) -/

/-- The port's exchange is abandoned without a CANCEL (R120, step 1). -/
def dropExchange (i : InstrId) (s : State) : State :=
  let s := outputAbandoned i (s.port i).awaited s
  let p := s.port i
  s.setPort i { p with
    state := if p.state.out then p.state else .idle
    awaited := if p.state = .offline then p.awaited else none
    user := none
    outstanding := if p.state = .offline then p.outstanding else none
    respTimer := none
    spacing := none
    sentConfig := none
    sourceOffFor := none
    quietReport := none }

/-- The source-off of a soft reset (R120, step 3; R113). -/
def resetSourceOff (i : InstrId) (s : State) : State :=
  if (s.record i).sourceCapable then
    match (s.port i).state with
    | .offline =>
      let s := transmit i 0x03 (flagByte false) s
      let p := s.port i
      s.setPort i { p with source := if p.source = .on then .unknown else p.source }
    | .idle => sendOutput i .softReset false s
    | .disabled | .command | .triggered | .fetching => s
  else s

/-- One port at a soft reset (R120). -/
def resetPort (s : State) (i : InstrId) : State :=
  let s := dropExchange i s
  resetSourceOff i (s.setPort i { s.port i with counters := .clear, failures := 0 })

/-- Every live route freed, the node map and the image empty, the dirty mark set (R75). -/
def resetRoutes (s : State) : State :=
  markDirty { s with routes := .empty, nodes := .empty, image := .allOpen }

/-- A pass that had given its latch has its wear added (R97, step 1). -/
def abandonPass (s : State) : State := if s.chain.phase = .verify then countNoted s else s

/-- A card table entry at a soft reset (R77; R97, step 2). -/
def Card.softReset (c : Card) : Card := { c with faultCount := 0, firstCause := none, relearn := false, latched := 0 }

/-- The chain controller at a soft reset, up to its discovery (R97, steps 2 to 4). -/
def resetChain (s : State) : State :=
  s.setChain { s.chain with
    cards := s.chain.cards.map Card.softReset
    passDue := false
    snapshot := .allOpen
    verifySet := 0
    noted := .allOpen
    cursor := 0
    phase := .discovery }

/-- Every holder none and every wait queue empty (R48). -/
def resetLeases (s : State) : State := { s with leases := .replicate 6 ⟨none, []⟩ }

/-- A site context at a soft reset, before usability is judged (R1, R178, R145). -/
def Site.softReset (c : Site) : Site :=
  { Site.powerOn with
    entryStep := c.entryStep, startEnable := c.startEnable, watchdogLimit := c.watchdogLimit }

/-- The sites at a soft reset; no order and no selected step is left (R203, part 4). -/
def resetSites (s : State) : State :=
  { s with sites := s.sites.map Site.softReset, orders := .replicate 8 [], agenda := [] }

/-- LID has the state that its filtered level and its polarity give, also where a polarity written while the engine was BUSY
has not been judged yet (R158; R177, steps 4 and 5). -/
def readLid (s : State) : State :=
  let x := s.line lidLine
  s.setLine lidLine { x with active := x.filtered == x.polarity }

/-- The fixture monitor and the safety controller at a soft reset (R177, R186); the stop that ends an abandoned load comes
first on the bus. -/
def resetFixture (s : State) : State :=
  let s := readLid (clearLatches s)
  let stopped := if s.fixture.busy then [BusItem.stop] else []
  let s := lidAtReset { s with fixture := .powerOn, safe := ⟨false, false, false⟩ }
  judgeAll (s.setFixture { s.fixture with sent := stopped ++ s.fixture.sent })

/-- The effect of a soft reset (R202, then R203). The link's groups are cleared by R202 and again by part 7, behind the WEAR
notices that part 2 may have lost. -/
def softResetTaken (s : State) : State :=
  let s := resetLink s
  let s := allInsts.foldl resetPort s
  let s := abandonPass (resetRoutes s)
  let s := resetSites (resetLeases (resetChain s))
  resetFixture (clearLinkGroups { s with queue := .empty })

/-- SOFT_RESET_EFFECT (R201–R203): a soft reset in progress takes effect; frames ahead of its reply and the reply have left
HTXD by then (notes/assumptions/2). -/
def execSoftResetEffect (s : State) : Answer :=
  match s.link.inProgress with
  | some .softReset | some .softResetDue => .next (softResetTaken s)
  | _ => .next s

end Sys2Proof.Machine
end

