-- ==== Sys2Proof/Machine/Dispatch.lean ====
section
/-! DEFINITION. One arm per command: the command's effect on everything but the queue. -/

namespace Sys2Proof.Machine

def exec (i : Instr) (s : State) : Host.Outcome State Fault Refusal :=
  match i with
  | .powerOnReset rate1 rate0 lines rdy => Sys2Proof.Machine.execPowerOnReset rate1 rate0 lines rdy s
  | .unknownKindFrame kind tag body => Sys2Proof.Machine.execUnknownKindFrame kind tag body s
  | .ident tag body => Sys2Proof.Machine.execIdent tag body s
  | .statusSummary tag body => Sys2Proof.Machine.execStatusSummary tag body s
  | .statusSites tag body => Sys2Proof.Machine.execStatusSites tag body s
  | .statusInstruments tag body => Sys2Proof.Machine.execStatusInstruments tag body s
  | .statusRoutes tag body => Sys2Proof.Machine.execStatusRoutes tag body s
  | .statusCards tag body => Sys2Proof.Machine.execStatusCards tag body s
  | .statusInputs tag body => Sys2Proof.Machine.execStatusInputs tag body s
  | .countersRead tag body => Sys2Proof.Machine.execCountersRead tag body s
  | .countersClearLink tag body => Sys2Proof.Machine.execCountersClearLink tag body s
  | .countersClearWatchdog tag body => Sys2Proof.Machine.execCountersClearWatchdog tag body s
  | .countersClearPort tag body => Sys2Proof.Machine.execCountersClearPort tag body s
  | .countersClearCard tag body => Sys2Proof.Machine.execCountersClearCard tag body s
  | .softReset tag body => Sys2Proof.Machine.execSoftReset tag body s
  | .softResetEffect => Sys2Proof.Machine.execSoftResetEffect s
  | .watchdogSet tag body => Sys2Proof.Machine.execWatchdogSet tag body s
  | .stepsLoad tag body => Sys2Proof.Machine.execStepsLoad tag body s
  | .stepsRead tag body => Sys2Proof.Machine.execStepsRead tag body s
  | .routedefLoad tag body => Sys2Proof.Machine.execRoutedefLoad tag body s
  | .limitsLoad tag body => Sys2Proof.Machine.execLimitsLoad tag body s
  | .calSet tag body => Sys2Proof.Machine.execCalSet tag body s
  | .calRead tag body => Sys2Proof.Machine.execCalRead tag body s
  | .instrSet tag body => Sys2Proof.Machine.execInstrSet tag body s
  | .cardSetCard tag body => Sys2Proof.Machine.execCardSetCard tag body s
  | .cardSetChain tag body => Sys2Proof.Machine.execCardSetChain tag body s
  | .cardReset tag body => Sys2Proof.Machine.execCardReset tag body s
  | .wearRead tag body => Sys2Proof.Machine.execWearRead tag body s
  | .wearLoad tag body => Sys2Proof.Machine.execWearLoad tag body s
  | .siteSet tag body => Sys2Proof.Machine.execSiteSet tag body s
  | .start tag body => Sys2Proof.Machine.execStart tag body s
  | .abort tag body => Sys2Proof.Machine.execAbort tag body s
  | .manual tag body => Sys2Proof.Machine.execManual tag body s
  | .direct tag body => Sys2Proof.Machine.execDirect tag body s
  | .siteClear tag body => Sys2Proof.Machine.execSiteClear tag body s
  | .varSet tag body => Sys2Proof.Machine.execVarSet tag body s
  | .varRead tag body => Sys2Proof.Machine.execVarRead tag body s
  | .flagRaise tag body => Sys2Proof.Machine.execFlagRaise tag body s
  | .flagClear tag body => Sys2Proof.Machine.execFlagClear tag body s
  | .fetch tag body => Sys2Proof.Machine.execFetch tag body s
  | .fixtureRead tag body => Sys2Proof.Machine.execFixtureRead tag body s
  | .fixtureDefine tag body => Sys2Proof.Machine.execFixtureDefine tag body s
  | .fixtureReload tag body => Sys2Proof.Machine.execFixtureReload tag body s
  | .fixmemTake tag body => Sys2Proof.Machine.execFixmemTake tag body s
  | .fixmemGive tag body => Sys2Proof.Machine.execFixmemGive tag body s
  | .fixmemRead tag body => Sys2Proof.Machine.execFixmemRead tag body s
  | .fixmemWrite tag body => Sys2Proof.Machine.execFixmemWrite tag body s
  | .inputsSet tag body => Sys2Proof.Machine.execInputsSet tag body s
  | .safeEnter tag body => Sys2Proof.Machine.execSafeEnter tag body s
  | .safeLeave tag body => Sys2Proof.Machine.execSafeLeave tag body s
  | .goodFrameArrival bytes => Sys2Proof.Machine.execGoodFrameArrival bytes s
  | .frameLengthDrop bytes => Sys2Proof.Machine.execFrameLengthDrop bytes s
  | .fragmentGapExpiry => Sys2Proof.Machine.execFragmentGapExpiry s
  | .frameSent => Sys2Proof.Machine.execFrameSent s
  | .linkWatchdogExpiry => Sys2Proof.Machine.execLinkWatchdogExpiry s
  | .safeOrder site => Sys2Proof.Machine.execSafeOrder site s
  | .delayExpiry site => Sys2Proof.Machine.execDelayExpiry site s
  | .waitFlagTimeout site => Sys2Proof.Machine.execWaitFlagTimeout site s
  | .stepWatchdogExpiry site => Sys2Proof.Machine.execStepWatchdogExpiry site s
  | .quietOutcome port => Sys2Proof.Machine.execQuietOutcome port s
  | .grantEvent site inst => Sys2Proof.Machine.execGrantEvent site inst s
  | .makeTimerExpiry entry => Sys2Proof.Machine.execMakeTimerExpiry entry s
  | .releaseTimerExpiry entry => Sys2Proof.Machine.execReleaseTimerExpiry entry s
  | .discoveryEnd answers => Sys2Proof.Machine.execDiscoveryEnd answers s
  | .writeFrameSent => Sys2Proof.Machine.execWriteFrameSent s
  | .latch => Sys2Proof.Machine.execLatch s
  | .readFrameAnswer answer => Sys2Proof.Machine.execReadFrameAnswer answer s
  | .refreshExpiry => Sys2Proof.Machine.execRefreshExpiry s
  | .portAck port seq body => Sys2Proof.Machine.execPortAck port seq body s
  | .portNak port seq body => Sys2Proof.Machine.execPortNak port seq body s
  | .portValue port seq body => Sys2Proof.Machine.execPortValue port seq body s
  | .portIdent port seq body => Sys2Proof.Machine.execPortIdent port seq body s
  | .portBadChecksum port bytes => Sys2Proof.Machine.execPortBadChecksum port bytes s
  | .responseTimeout port => Sys2Proof.Machine.execResponseTimeout port s
  | .cancelSent port => Sys2Proof.Machine.execCancelSent port s
  | .probeTimerExpiry port => Sys2Proof.Machine.execProbeTimerExpiry port s
  | .rdyRawChange port level => Sys2Proof.Machine.execRdyRawChange port level s
  | .rdyFilteredChange port => Sys2Proof.Machine.execRdyFilteredChange port s
  | .triggerPulseEnd port => Sys2Proof.Machine.execTriggerPulseEnd port s
  | .triggerSpacing port => Sys2Proof.Machine.execTriggerSpacing port s
  | .inputRawChange line level => Sys2Proof.Machine.execInputRawChange line level s
  | .seatChange site => Sys2Proof.Machine.execSeatChange site s
  | .startChange site => Sys2Proof.Machine.execStartChange site s
  | .lidOpen => Sys2Proof.Machine.execLidOpen s
  | .lidClose => Sys2Proof.Machine.execLidClose s
  | .loadHeaderDone data => Sys2Proof.Machine.execLoadHeaderDone data s
  | .loadBodyDone data => Sys2Proof.Machine.execLoadBodyDone data s
  | .fixmemReadDone data => Sys2Proof.Machine.execFixmemReadDone data s
  | .fixmemWriteDone acked => Sys2Proof.Machine.execFixmemWriteDone acked s
  | .fixmemWritePoll ack => Sys2Proof.Machine.execFixmemWritePoll ack s
  | .portUnknownKindMessage port kind seq body => Sys2Proof.Machine.execPortUnknownKindMessage port kind seq body s

end Sys2Proof.Machine
end

