-- ==== Sys2Proof/Machine/Step.lean ====
section
/-! DEFINITION. One step of the block: the command at the front of the queue, or what the block does of its own accord. -/

namespace Sys2Proof.Machine

/-- What the block does when no command waits (notes/assumptions/3): the rest of a long chain of steps, an event that is
due, or a tick of the time base. -/
def idleStep (s : State) : Host.Outcome State Fault Refusal :=
  if s.agenda.isEmpty then
    match dueEvent s with
    | some i => exec i s
    | none => .next (tick s)
  else .next (settle s)

/-- One step: the command at the front of the queue on the state with the queue's rest. -/
def step (s : State) : Host.Outcome State Fault Refusal :=
  match s.pending with
  | i :: rest => exec i { s with pending := rest }
  | [] => idleStep s

/-- The command that a word spells, put at the front of the queue; the table gives its rows no bits, so no word spells
one. -/
def State.withFetchWord (s : State) (nbits w : Nat) : State :=
  match decodeTableWord nbits w with
  | some i => { s with pending := i :: s.pending }
  | none => s

end Sys2Proof.Machine
end

