-- ==== Sys2Proof/Safety.lean ====
section
/-! DEFINITION. The terms of the statements: when the link takes a request and the state its block then sees (R193, R194), the
body lengths each request allows (R194), the ranges of R11, and the invariants of the block. -/

namespace Sys2Proof.Machine

/-! ### The taking of a request (R193, R194) -/

/-- The link takes the frame at once: it is at the head of the receive buffer, or it is the next to arrive (the buffer
empty, the receiver hunting); no request is in progress and a place of the transmit queue is free. -/
def Takes (f : Frame) (s : State) : Prop :=
  (s.link.rx.head? = some f ∨ (s.link.rx = [] ∧ s.link.rxBytes = [] ∧ f.body.length ≤ 1024)) ∧
    s.link.inProgress = none ∧ s.link.tx.length < 16

/-- The state in which the block that owns the request sees it: the frame has left the buffer; a frame that arrived for
this has restarted the link watchdog and removed the safe cause LINK (R193). -/
def taken (f : Frame) (s : State) : State :=
  if s.link.rx.head? = some f then popFrame s else safeRemove .link (restartWatchdog s)

/-- The request command `c` with frame `f` completes: whenever the link takes `f` and the state its block sees has `guard`,
the answer is the next state that `effect` makes of it. -/
def Answers (c : Instr) (f : Frame) (guard : State → Prop) (effect : State → State) : Prop :=
  ∀ s : State, Takes f s → guard (taken f s) → exec c s = .next (effect (taken f s))

/-- A refused request is answered with its status alone and changes nothing else (R196). -/
def Refuses (c : Instr) (f : Frame) (guard : State → Prop) (status : Byte) : Prop :=
  Answers c f guard (send ⟨f.kind + 0x40, f.tag, [status]⟩)

/-- The body lengths that a request in use allows (R194). -/
def lengthAllowed (kind : Byte) (length : Nat) : Bool :=
  match kind.toNat with
  | 0x01 | 0x03 | 0x05 | 0x28 | 0x2A | 0x2B | 0x2C | 0x30 | 0x31 => length == 0
  | 0x0D | 0x11 | 0x1A | 0x1B | 0x1D | 0x1F | 0x24 => length == 1
  | 0x02 => length == 1 || length == 2
  | 0x04 | 0x06 | 0x20 => length == 2
  | 0x09 | 0x12 | 0x21 | 0x2D => length == 3
  | 0x08 => decide (3 ≤ length) && (length - 3) % 20 == 0
  | 0x0A => decide (2 ≤ length) && (length - 2) % 21 == 0
  | 0x0B => decide (2 ≤ length) && (length - 2) % 18 == 0
  | 0x0C => length == 10
  | 0x0E => length == 11
  | 0x10 => length == 7 || length == 2
  | 0x13 => decide (length ∈ [99, 195, 291, 387, 483, 579, 675, 771])
  | 0x18 => length == 6
  | 0x19 => length == 4
  | 0x1C => length == 21
  | 0x1E => length == 7
  | 0x29 => decide (length ∈ [15, 19, 23, 27, 31, 35, 39, 43])
  | 0x2E => decide (2 ≤ length)
  | 0x2F => length == 51
  | _ => false

/-- The codes of the request catalogue. -/
def catalogue : List Byte :=
  [0x01, 0x02, 0x03, 0x04, 0x05, 0x06, 0x08, 0x09, 0x0A, 0x0B, 0x0C, 0x0D, 0x0E, 0x10, 0x11, 0x12, 0x13, 0x18, 0x19, 0x1A,
    0x1B, 0x1C, 0x1D, 0x1E, 0x1F, 0x20, 0x21, 0x24, 0x28, 0x29, 0x2A, 0x2B, 0x2C, 0x2D, 0x2E, 0x2F, 0x30, 0x31]

/-! ### Step records inside the ranges of R11 -/

def Next.inRange : Next → Bool
  | .slot n => decide (n < 2048)
  | .chainEnd => true

def StepKind.inRange : StepKind → Bool
  | .configure _ f => decide (f.function.toNat < 16 ∧ f.range.toNat < 8 ∧ f.aperture.toNat < 16)
  | .measure f => decide (1 ≤ f.samples ∧ f.samples ≤ 256)
  | .zero f => decide (1 ≤ f.samples ∧ f.samples ≤ 256)
  | .waitFlag mask _ _ => decide (mask ≠ 0)
  | .acquire _ | .release _ | .connect _ | .disconnect _ | .output _ _ | .delay _ | .signal _ | .chainEnd => true

def StepRecord.inRange (r : StepRecord) : Bool :=
  r.next.inRange && r.onFail.all Next.inRange && r.kind.inRange

/-! ### Records of the loads, as the Formats section lays them out -/

/-- A route definition inside the ranges of R52: one to eight distinct nodes 0–511. -/
def RouteDef.inRange (r : RouteDef) : Bool :=
  decide (1 ≤ r.nodes.length ∧ r.nodes.length ≤ 8 ∧ r.nodes.Nodup) && r.nodes.all (· < 512)

/-- The 21 bytes of a route definition; an undefined index has node count 0. -/
def routeDefBytes : Option RouteDef → List Byte
  | none => List.replicate 21 0
  | some r =>
    u8 r.inst ++ u8 (terminalCode r.terminal) ++ u8 r.nodes.length ++ le16 r.settle.toNat ++
      padTo 16 (r.nodes.flatMap le16)

/-- A limit set inside the ranges of R123. -/
def LimitSet.inRange : LimitSet → Bool
  | .abs low high guard _ =>
    decide (-2147483648 ≤ low ∧ low ≤ high ∧ high ≤ 2147483647 ∧ guard ≤ 134217727)
  | .rel _ below above guard _ => decide (below ≤ 10000 ∧ above ≤ 10000 ∧ guard ≤ 134217727)

/-- The 18 bytes of a limit set; NONE has kind 0. -/
def limitSetBytes : Option LimitSet → List Byte
  | none => List.replicate 18 0
  | some (.abs low high guard unused) =>
    [1, unused.reference] ++ le32i low ++ le32i high ++ le16 unused.below.toNat ++ le16 unused.above.toNat ++ le32 guard
  | some (.rel reference below above guard unused) =>
    [2] ++ u8 reference ++ le32 unused.low.toNat ++ le32 unused.high.toNat ++ le16 below ++ le16 above ++ le32 guard

/-- The order of the checks that every load makes, and its effect (R10, R53, R124): STATE while a site is in RUN, MANUAL or
TEARDOWN; BAD_VALUE beyond the store; else the records are written from `first` on, into a store cleared first when the
clear flag is set. -/
def LoadChecks {α : Type} (c : Byte → List Byte → Instr) (kind : Byte) (indices places : Nat) (firstBytes : Nat → List Byte)
    (bytes : Option α → List Byte) (ok : Option α → Bool) (table : State → Table α)
    (write : State → Table α → State) : Prop :=
  ∀ (tag : Byte) (first : Nat) (clear : Bool) (records : List (Option α)), first < indices →
    records.all ok = true →
    let body := firstBytes first ++ flagByte clear ++ records.flatMap bytes
    Refuses (c tag body) ⟨kind, tag, body⟩ (fun s => s.anyBusySite = true) 0x04 ∧
    (places < first + records.length →
      Refuses (c tag body) ⟨kind, tag, body⟩ (fun s => s.anyBusySite = false) 0x03) ∧
    (first + records.length ≤ places →
      Answers (c tag body) ⟨kind, tag, body⟩ (fun s => s.anyBusySite = false) fun s =>
        send ⟨kind + 0x40, tag, [0x00]⟩ (write s ((if clear then .empty else table s).assignFrom first records)))

/-! ### Invariants -/

/-- The number of free result slots is never below the number of sites in a run (R153). -/
def Reserve (s : State) : Prop := s.queue.posted.length + s.runCount ≤ 1024

/-- The receive buffer holds at most two frames, the transmit queue at most sixteen, and one place is kept for the reply
of a FIXMEM request in progress (R193–R195). -/
def LinkBounds (s : State) : Prop :=
  s.link.rx.length ≤ 2 ∧ s.link.tx.length ≤ 16 ∧
    ((∃ kind tag, s.link.inProgress = some (.fixmem kind tag)) → s.link.tx.length < 16)

/-- A store's numbers rise and lie below its capacity. -/
def Table.within {α : Type} (capacity : Nat) (t : Table α) : Prop := t.wf = true ∧ ∀ e ∈ t.entries, e.1 < capacity

/-- The stores keep their canonical form inside their capacities (R9, R51, R52, R93, R123). -/
def StoresSound (s : State) : Prop :=
  s.steps.within 2048 ∧ s.routeDefs.within 256 ∧ s.limits.within 256 ∧ s.routes.within 128 ∧ s.nodes.wf = true ∧
    s.wear.within 8192 ∧ ∀ e ∈ s.wear.entries, 1 ≤ e.2 ∧ e.2 ≤ 16777215

/-- No bus is claimed twice (R45). -/
def ClaimsSound (s : State) : Prop := (allInsts.flatMap fun i => (s.record i).buses).Nodup

/-- An instrument that is not source-capable has source state OFF (R113), and a failure count is 0–3 (R103). -/
def PortsSound (s : State) : Prop :=
  ∀ i, ((s.record i).sourceCapable = false → (s.port i).source = .off) ∧ (s.port i).failures ≤ 3

/-- A wait queue is never non-empty while its instrument has no holder (R34). -/
def QueuesHeld (s : State) : Prop := ∀ i, (s.lease i).holder = none → (s.lease i).queue = []

/-- A site in a run carries a run number other than 0 (R33). -/
def RunsNumbered (s : State) : Prop := ∀ n, (s.site n).inRun = true → (s.site n).runNumber ≠ 0

/-- The node map, the live routes and the commanded image agree (R49, R50, R54). -/
structure RoutesSound (s : State) : Prop where
  /-- Every node of an entry in use is a node of the matrix, claimed by that entry on its bus. -/
  claimed : ∀ e r, s.route e = some r → ∀ p ∈ r.nodes, p < 512 ∧ s.nodes.get p = some ⟨r.bus, e⟩
  /-- A crosspoint is in the image exactly when it is one of an entry in MAKING, MADE or FAULTED. -/
  image : ∀ (k : CardId) (place : Nat), (s.image[k]).getLsbD place = true ↔
    ∃ e r p, s.route e = some r ∧ r.live = true ∧ p ∈ r.nodes ∧ cardOf p = k ∧ placeOf r.bus p = place
  /-- The windows in force lie within the nodes of the matrix. -/
  windows : s.fixture.inForce = true → ∀ h ws crc, s.fixture.held = some ⟨h, some (ws, crc)⟩ →
    ∀ w ∈ ws, w.base + w.size ≤ 512

/-- What every step keeps. -/
structure Sound (s : State) : Prop where
  reserve : Reserve s
  link : LinkBounds s
  stores : StoresSound s
  claims : ClaimsSound s
  ports : PortsSound s
  queues : QueuesHeld s
  runs : RunsNumbered s
  routes : RoutesSound s

end Sys2Proof.Machine
end

