-- ==== Sys2Proof/Certificates/Slice0/Obligations.lean ====
section
/-! DEFINITION. The statements for the provers. A request is stated in the state `taken` gives, which is what its block sees
once the link has taken the frame (R193, R194); `send` puts a reply at the tail of the transmit queue, `notice` hands a notice
over, and `settle` takes the steps that an event has selected (nothing, when none is selected). -/

open Sys2Proof Sys2Proof.Machine

/-! ### The block as a machine -/

/-- A step takes the command at the front of the queue on the state with the queue's rest. On an empty queue, with no
selected step left over, it takes the event that is due, or one microsecond passes (the model's choice, log entry 3; R32
gives the tick). -/
def Obligations.StepTakesTheFrontCommand : Prop :=
  (∀ (c : Instr) (rest : List Instr) (s : State), s.pending = c :: rest → step s = exec c { s with pending := rest }) ∧
  (∀ (c : Instr) (s : State), s.pending = [] → s.agenda = [] → dueEvent s = some c → step s = exec c s) ∧
  (∀ s : State, s.pending = [] → s.agenda = [] → dueEvent s = none → step s = .next { s with time := s.time + 1 })

/-- No command ends in a fault or a refusal, in any state and with any operands. No command changes the queue of waiting
commands, which is the model's own. -/
def Obligations.EveryCommandAnswersAndLeavesTheQueue : Prop :=
  (∀ (c : Instr) (s : State), ∃ t, exec c s = .next t) ∧
  (∀ (c : Instr) (s t : State), exec c s = .next t → t.pending = s.pending)

/-- POWER_ON_RESET sets every block to its power-on values, with the levels of the pins given: polarity LOW makes a low pin
active, so LID low is closed and a load begins (the engine is addressing word 0), LID high is open and a safe cause. The
values of fields for which the spec states none (what a step, a load, a trigger cycle or the receiver keeps of its own
progress) are the model's choice (log entry 38), and so are the empty orders and agenda and the queue of waiting commands
left as it is (log entry 31). What the engine's bus record holds is log entry 45. (Leases, routes and calibration rest on
R34, R75 and R121.) -/
def Obligations.PowerOnResetSetsEveryBlock : Prop :=
  ∀ (rate1 rate0 : Bool) (pins : BitVec 17) (rdy : BitVec 6) (s : State), ∃ t,
    exec (.powerOnReset rate1 rate0 pins rdy) s = .next t ∧
    t.time = 0 ∧
    (t.link.rxBytes = [] ∧ t.link.rx = [] ∧ t.link.tx = [] ∧ t.link.inProgress = none ∧
      t.link.counters = ⟨0, 0, 0, 0, 0, none⟩ ∧ t.link.watchdogs = ⟨0, .replicate 8 0, none⟩ ∧ t.link.limit = 0 ∧
      t.link.watchdog = none ∧ t.link.rateCode.val = 2 * rate1.toNat + rate0.toNat) ∧
    (t.steps.entries = [] ∧ t.routeDefs.entries = [] ∧ t.limits.entries = [] ∧ t.routes.entries = [] ∧
      t.nodes.entries = [] ∧ t.wear.entries = []) ∧
    (∀ i r, t.calEntry i r = ⟨0, 4194304, 0, false⟩) ∧
    (∀ n, t.site n =
      { state := .unseated, phase := .noStep, current := none, entryStep := 0, startEnable := false, watchdogLimit := 0,
        watchdog := none, runNumber := 0, runStart := 0, passCount := 0, marginCount := 0, failCount := 0,
        noJudgeCount := 0, stepsTaken := 0, worst := none, lastJudgement := none, cause := none, errorCode := none,
        teardownStep := none, hot := false, vars := .replicate 8 ⟨0, false⟩, inFlags := 0, outFlags := 0,
        teardownPhase := none, origin := none, outstanding := 0, taking := none, stepTimer := none, settleOn := none,
        needNodes := [], meas := .empty }) ∧
    (∀ i, t.lease i = ⟨none, []⟩ ∧
      t.record i =
        { enable := false, hi := none, lo := none, shi := none, slo := none, responseTimeout := 1000,
          triggerWidth := 10, rdyFilter := 4, sourceCapable := false } ∧
      (t.port i).state = .disabled ∧ (t.port i).awaited = none ∧ (t.port i).user = none ∧ (t.port i).seq = 0 ∧
      (t.port i).outstanding = none ∧ (t.port i).respTimer = none ∧ (t.port i).probeTimer = none ∧
      (t.port i).source = .off ∧ (t.port i).failures = 0 ∧ (t.port i).lastConfig = none ∧ (t.port i).lastIdent = none ∧
      (t.port i).lastNak = none ∧ (t.port i).filteredRdy = false ∧ (t.port i).rawRdy = rdy.getLsbD i.val ∧
      (t.port i).counters = ⟨0, 0, 0, 0, 0, none⟩ ∧ (t.port i).pulse = none) ∧
    (∀ k : CardId, t.image[k] = 0 ∧ t.chain.snapshot[k] = 0 ∧
      t.card k =
        { state := .absent, id := none, operate := 20, release := 10, threshold := 0, faultCount := 0,
          firstCause := none, relearn := false, latched := 0 }) ∧
    (t.chain.phase = .discovery ∧ t.chain.dirty = false ∧ t.chain.passDue = false ∧ t.chain.verifySet = 0 ∧
      t.chain.passNumber = 0 ∧ t.chain.interval = 50 ∧ t.chain.refresh = some ⟨0, 50000⟩) ∧
    t.queue = ⟨[], 0, []⟩ ∧
    (∀ l : LineId, t.line l =
      { filter := 10, polarity := false, edge := .press, raw := pins.getLsbD l.val, lastChange := 0,
        filtered := pins.getLsbD l.val, active := !pins.getLsbD l.val, latchActive := false, latchInactive := false }) ∧
    t.safe = ⟨pins.getLsbD 16, false, false⟩ ∧
    t.fixture =
      (if pins.getLsbD 16 then
        { state := .noIdentity, held := none, loadStep := none, loadCause := none, headerBytes := [], busy := false,
          owner := .monitor, lastCommand := none, error := none, transfer := none, sent := [] }
      else
        { state := .loading, held := none, loadStep := some .header, loadCause := none, headerBytes := [], busy := true,
          owner := .monitor, lastCommand := some (.loadHeader, 0, 9), error := none, transfer := none
          sent := [.start, .byte 0xB8, .byte 0, .byte 0, .start, .byte 0xB9] }) ∧
    (∀ n : SiteId, t.orders[n] = []) ∧ t.agenda = [] ∧ t.pending = s.pending

/-- The reset state is the power-on reset with every pin low (the levels are the model's choice, log entry 1), and every
invariant of the block holds there. -/
def Obligations.ResetStateIsSound : Prop :=
  exec (.powerOnReset false false 0 0) State.reset = .next State.reset ∧ Sound State.reset

/-- The effect of a soft reset on every block: what it clears, what it keeps, and the OUTPUT OFF that it sends on each port
in service or OFFLINE whose instrument is source-capable. The link's queue and the wear counts are stated for a reset that
abandons no pass after its latch (R97 hands over that pass's wear); the counter groups are clear after every reset. LID is
closed or open as its filtered level and its polarity give. That a soft reset takes effect as soon as it is in progress is
log entry 2, the emptied orders and agenda are log entry 31, the emptied fields of a step's own progress log entry 38, and
the bus record, with the stop of an abandoned transfer first, log entry 45. -/
def Obligations.SoftResetActsOnEveryBlock : Prop :=
  ∀ s : State, s.link.inProgress = some .softReset ∨ s.link.inProgress = some .softResetDue → ∃ t,
    exec .softResetEffect s = .next t ∧
    (t.time = s.time ∧ t.steps = s.steps ∧ t.routeDefs = s.routeDefs ∧ t.limits = s.limits ∧ t.cal = s.cal ∧
      t.records = s.records) ∧
    (t.link.rxBytes = [] ∧ t.link.rx = [] ∧ t.link.inProgress = none ∧ t.link.limit = s.link.limit ∧
      t.link.watchdog = limitTimer s.time s.link.limit.toNat ∧ t.link.rateCode = s.link.rateCode ∧
      t.link.watchdogs = ⟨0, .replicate 8 0, none⟩ ∧ t.link.counters = ⟨0, 0, 0, 0, 0, none⟩) ∧
    (s.chain.phase ≠ .verify → t.link.tx = [] ∧ t.wear = s.wear) ∧
    (t.routes.entries = [] ∧ t.nodes.entries = [] ∧ (∀ k : CardId, t.image[k] = 0)) ∧
    (∀ n, t.site n =
      { state := .unseated, phase := .noStep, current := none, entryStep := (s.site n).entryStep,
        startEnable := (s.site n).startEnable, watchdogLimit := (s.site n).watchdogLimit, watchdog := none,
        runNumber := 0, runStart := 0, passCount := 0, marginCount := 0, failCount := 0, noJudgeCount := 0,
        stepsTaken := 0, worst := none, lastJudgement := none, cause := none, errorCode := none, teardownStep := none,
        hot := false, vars := .replicate 8 ⟨0, false⟩, inFlags := 0, outFlags := 0, teardownPhase := none,
        origin := none, outstanding := 0, taking := none, stepTimer := none, settleOn := none, needNodes := [],
        meas := .empty }) ∧
    (∀ i, t.lease i = ⟨none, []⟩ ∧ (t.port i).counters = ⟨0, 0, 0, 0, 0, none⟩ ∧ (t.port i).failures = 0 ∧
      (t.port i).lastConfig = (s.port i).lastConfig ∧ (t.port i).lastIdent = (s.port i).lastIdent ∧
      (t.port i).lastNak = (s.port i).lastNak ∧ (t.port i).filteredRdy = (s.port i).filteredRdy ∧
      (t.port i).spacing = none ∧ (t.port i).sentConfig = none ∧ (t.port i).sourceOffFor = none ∧
      (t.port i).quietReport = none ∧
      ((s.port i).state = .disabled ∨ (s.port i).state = .offline → (t.port i).state = (s.port i).state ∧
        (t.port i).probeTimer = (s.port i).probeTimer ∧ (t.port i).user = none ∧ (t.port i).respTimer = none) ∧
      ((s.port i).state = .offline → (t.port i).awaited = (s.port i).awaited ∧
        (t.port i).outstanding = (s.port i).outstanding) ∧
      ((s.port i).state ≠ .disabled ∧ (s.port i).state ≠ .offline →
        if (s.record i).sourceCapable then
          (t.port i).state = .command ∧ (t.port i).awaited = some .outputOff ∧ (t.port i).user = some .softReset ∧
          (t.port i).outstanding = some ((s.port i).seq + 1) ∧
          (t.port i).respTimer = some ⟨s.time, (s.record i).responseTimeout.toNat * 1000⟩
        else (t.port i).state = .idle ∧ (t.port i).awaited = none ∧ (t.port i).user = none ∧
          (t.port i).outstanding = none ∧ (t.port i).respTimer = none) ∧
      (let abandoned := if (s.port i).awaited = some .outputOn ∨
            ((s.port i).awaited = some .outputOff ∧ (s.port i).source ≠ .off) then
          (if (s.record i).sourceCapable then SourceState.unknown else .off)
        else (s.port i).source
      (t.port i).source =
        if (s.record i).sourceCapable = true ∧ (s.port i).state = .offline ∧ abandoned = .on then .unknown
        else abandoned) ∧
      (if (s.record i).sourceCapable = true ∧ (s.port i).state ≠ .disabled then
        (t.port i).seq = (s.port i).seq + 1 ∧ (t.port i).rxBytes = [] ∧
        (t.port i).lastSent = messageBytes ⟨0x03, (s.port i).seq + 1, [0]⟩
      else (t.port i).seq = (s.port i).seq ∧ (t.port i).rxBytes = (s.port i).rxBytes ∧
        (t.port i).lastSent = (s.port i).lastSent)) ∧
    (∀ k : CardId, t.chain.snapshot[k] = 0 ∧ t.card k = { s.card k with
      faultCount := 0, firstCause := none, relearn := false, latched := 0 }) ∧
    (t.chain.phase = .discovery ∧ t.chain.dirty = true ∧ t.chain.passDue = false ∧ t.chain.verifySet = 0 ∧
      t.chain.passNumber = s.chain.passNumber ∧ t.chain.interval = s.chain.interval ∧
      t.chain.refresh = s.chain.refresh) ∧
    t.queue = ⟨[], 0, []⟩ ∧
    (∀ l, t.line l = { s.line l with
      active := if l = lidLine then decide ((s.line l).filtered = (s.line l).polarity) else (s.line l).active
      latchActive := false, latchInactive := false }) ∧
    t.safe = ⟨decide ((s.line lidLine).filtered ≠ (s.line lidLine).polarity), false, false⟩ ∧
    t.fixture =
      (if (s.line lidLine).filtered = (s.line lidLine).polarity then
        { state := .loading, held := none, loadStep := some .header, loadCause := none, headerBytes := [], busy := true,
          owner := .monitor, lastCommand := some (.loadHeader, 0, 9), error := none, transfer := none
          sent := (if s.fixture.busy then [.stop] else []) ++
            [.start, .byte 0xB8, .byte 0, .byte 0, .start, .byte 0xB9] }
      else
        { state := .noIdentity, held := none, loadStep := none, loadCause := none, headerBytes := [], busy := false,
          owner := .monitor, lastCommand := none, error := none, transfer := none
          sent := if s.fixture.busy then [.stop] else [] }) ∧
    (∀ n : SiteId, t.orders[n] = []) ∧ t.agenda = []

/-! ### The host link -/

/-- SOFT_RESET is answered OK and stays in progress; its effect is due when the reply has left the line, and a place of the
transmit queue is free when the last byte of its frame has left. That FRAME_SENT with an empty queue changes nothing is the
model's choice (log entry 27). -/
def Obligations.SoftResetAnswersBeforeItsEffect : Prop :=
  (∀ tag, Answers (.softReset tag []) ⟨0x05, tag, []⟩ (fun _ => True) fun s =>
    { s with link := { s.link with tx := s.link.tx ++ [⟨0x45, tag, [0x00]⟩], inProgress := some .softReset } }) ∧
  (∀ (f : Frame) (rest : List Frame) (s : State), s.link.tx = f :: rest → exec .frameSent s =
    .next { s with link := { s.link with
      tx := rest
      inProgress := if s.link.inProgress = some .softReset ∧ f.kind = 0x45 ∧ f.body = [0x00] then some .softResetDue
                    else s.link.inProgress } }) ∧
  (∀ s : State, s.link.tx = [] → exec .frameSent s = .next s)

/-- A good frame, received whole: the link watchdog restarts, the safe cause LINK is removed with its SAFE notice, and the
frame is appended to a buffer of fewer than two frames or counted as OVERRUN. A LENGTH above 1,024, a CRC that differs and a
gap of 10,000 µs each drop the frame and count; the hunt goes on at the byte behind the SYNC. That the gap's expiry is taken
at its first reading, and changes nothing while another event comes first, is the model's choice (log entry 2), and so is
that it changes nothing with no bytes held (log entry 27). -/
def Obligations.FramesAreReceivedOrDropped : Prop :=
  (∀ (f : Frame) (s : State), f.body.length ≤ 1024 → s.link.rxBytes = [] →
     exec (.goodFrameArrival (frameBytes f)) s = .next
       (let t : State := { s with link := { s.link with
         rxLast := s.time
         watchdog := if s.link.limit.toNat = 0 then none else some ⟨s.time, s.link.limit.toNat * 1000⟩ } }
       let u := if s.safe.link then safeNotice .link false { t with safe := { t.safe with link := false } } else t
       { u with link :=
         if s.link.rx.length < 2 then { u.link with rx := s.link.rx ++ [f] }
         else { u.link with counters := u.link.counters.bump .overrun } })) ∧
  ((∀ (l0 l1 : Byte) (s : State), s.link.rxBytes = [] → 1024 < read16 l0 l1 →
     exec (.frameLengthDrop [0xA5, l0, l1]) s = .next { s with link := { s.link with
       rxLast := s.time
       counters := s.link.counters.bump .length
       rxBytes := if l0 = 0xA5 then [l0, l1] else if l1 = 0xA5 then [l1] else [] } }) ∧
   (∀ (f : Frame) (c1 c0 : Byte) (s : State), s.link.rxBytes = [] → f.body.length ≤ 1024 → [c1, c0] ≠ crcBytes (frameCore f) →
     0xA5 ∉ frameCore f ++ [c1, c0] →
     exec (.goodFrameArrival ([0xA5] ++ frameCore f ++ [c1, c0])) s = .next { s with link := { s.link with
       rxLast := s.time, counters := s.link.counters.bump .crc } }) ∧
   (∀ (b : Byte) (rest : List Byte) (s : State), s.link.rxBytes = b :: rest →
     s.reaches ⟨s.link.rxLast, 10000⟩ = false → exec .fragmentGapExpiry s = .next s) ∧
   (∀ (b : Byte) (rest : List Byte) (s : State), s.link.rxBytes = b :: rest → 0xA5 ∉ rest →
     s.reaches ⟨s.link.rxLast, 10000⟩ = true → exec .fragmentGapExpiry s = .next
       (let t := s.passTo ⟨s.link.rxLast, 10000⟩
       { t with link := { t.link with rxBytes := [], counters := t.link.counters.bump .fragment } })) ∧
   (∀ s : State, s.link.rxBytes = [] → exec .fragmentGapExpiry s = .next s))

/-- Every frame that the link could write is read back whole by its receiver, whatever bytes follow it and whatever bytes
other than SYNC stand before it; no part of it is taken for a frame. -/
def Obligations.ReceiverReadsEveryFrameTheLinkWrites : Prop :=
  ∀ f : Frame, f.body.length ≤ 1024 →
    (∀ junk rest : List Byte, 0xA5 ∉ junk → huntFrames (junk ++ frameBytes f ++ rest) =
      (.good f :: (huntFrames rest).1, (huntFrames rest).2)) ∧
    ∀ part tail : List Byte, frameBytes f = part ++ tail → tail ≠ [] → huntFrames part = ([], part)

/-- The link watchdog: a limit is set and restarts it, its expiry counts, sends WATCHDOG, stops it and adds the safe cause
LINK with its SAFE notice and the orders. That the expiry is taken at its first reading, and changes nothing while another
event comes first, is the model's choice (log entry 2), and so are that it changes nothing without a running watchdog (log
entry 27) and that orders on their way stand in lists (log entry 19). SAFE_ENTER and SAFE_LEAVE add and remove the cause
REQUEST, with its SAFE notice when the set changes, and with an order to every runner on entry into the safe state; the reply
carries the set as it then stands. The notice's code bytes are free values (log entry 4). -/
def Obligations.SafeCausesOfTheHostAreSet : Prop :=
  ((∀ tag l0 l1, Answers (.watchdogSet tag [l0, l1]) ⟨0x06, tag, [l0, l1]⟩ (fun _ => True) fun s =>
     send ⟨0x46, tag, [0x00]⟩ { s with link := { s.link with
       limit := l1 ++ l0
       watchdog := if read16 l0 l1 = 0 then none else some ⟨s.time, read16 l0 l1 * 1000⟩ } }) ∧
   (∀ (t : Timer) (s : State), s.link.watchdog = some t → s.reaches t = false → exec .linkWatchdogExpiry s = .next s) ∧
   (∀ (t : Timer) (s : State), s.link.watchdog = some t → s.reaches t = true → exec .linkWatchdogExpiry s = .next
     (let a := s.passTo t
     let b : State := { a with link := { a.link with watchdog := none, watchdogs := a.link.watchdogs.bump .link } }
     let c := notice 0x8A (le16 b.link.limit.toNat ++ [b.link.watchdogs.expiry] ++ le32 b.time.toNat) b
     if s.safe.link then c
     else
       let d := safeNotice .link true { c with safe := { c.safe with link := true } }
       if s.safe.holds then d else { d with orders := d.orders.map (· ++ [.linkWatchdog]) })) ∧
   (∀ s : State, s.link.watchdog = none → exec .linkWatchdogExpiry s = .next s)) ∧
  ((∀ (c : SafeCause) (added : Bool) (s : State), safeNotice c added s = notice 0x89
     ([Config.code .safeCauses (safeSetCode s.safe)] ++ [if s.safe.holds then 1 else 0] ++
       [Config.code .safeCause (safeCauseCode c)] ++ [Config.code .safeDirection (if added then 0 else 1)] ++
       le32 s.time.toNat) s) ∧
   (∀ (c : SafeCause) (s : State), safeAdd c s =
     if s.safe.has c then s
     else
       let u := safeNotice c true { s with safe := s.safe.assign true c }
       if s.safe.holds then u else { u with orders := u.orders.map (· ++ [orderCause c]) }) ∧
   (∀ (c : SafeCause) (s : State), safeRemove c s =
     if s.safe.has c then safeNotice c false { s with safe := s.safe.assign false c } else s) ∧
   (∀ tag, Answers (.safeEnter tag []) ⟨0x30, tag, []⟩ (fun _ => True) fun s =>
     let t :=
       if s.safe.request then s
       else
         let u := safeNotice .request true { s with safe := { s.safe with request := true } }
         if s.safe.holds then u else { u with orders := u.orders.map (· ++ [.safeRequest]) }
     send ⟨0x70, tag, [0x00, Config.code .safeCauses (safeSetCode { s.safe with request := true })]⟩ t) ∧
   (∀ tag, Answers (.safeLeave tag []) ⟨0x31, tag, []⟩ (fun _ => True) fun s =>
     let t := if s.safe.request then safeNotice .request false { s with safe := { s.safe with request := false } } else s
     send ⟨0x71, tag, [0x00, Config.code .safeCauses (safeSetCode { s.safe with request := false })]⟩ t))

/-- A frame whose KIND is no request in use is answered with KIND 0x40, its TAG, UNKNOWN_KIND and the KIND received. Every
request in use refuses, with BAD_LENGTH, every body of a length that its kind does not allow. The lengths of WEAR_LOAD (log
entry 11) and the one-byte count of STEPS_READ (log entry 17) are deduced. -/
def Obligations.WrongRequestsAreAnswered : Prop :=
  (∀ (kind tag : Byte) (body : List Byte), kind ∉ catalogue →
     requestCommand ⟨kind, tag, body⟩ = .unknownKindFrame kind tag body ∧
     Answers (.unknownKindFrame kind tag body) ⟨kind, tag, body⟩ (fun _ => True) (send ⟨0x40, tag, [0x01, kind]⟩)) ∧
  (∀ f : Frame, f.kind ∈ catalogue → lengthAllowed f.kind f.body.length = false →
     Refuses (requestCommand f) f (fun s => s.agenda = []) 0x02)

/-- IDENT reports the device code, the revision, the line rate code, the capacities and the time base reading. -/
def Obligations.IdentReportsTheDevice : Prop :=
  ∀ tag, Answers (.ident tag []) ⟨0x01, tag, []⟩ (fun _ => True) fun s =>
    send ⟨0x41, tag, [0x00, 0x60, 0x28, 0x01, BitVec.ofNat 8 s.link.rateCode, 8, 6, 16, 0, 2, 16, 0, 8, 0, 1, 128, 0, 1, 0, 4] ++
      le32 s.time.toNat⟩ s

/-- STATUS replies the time base reading and the part asked; INPUTS clears the latch marks it reports, the other parts change
nothing; a part code above 5, and a length that does not go with the part, are refused. The code bytes of names to which the
spec gives no number are free values (log entry 4), the layout of lists and of what is absent is the model's (log entry 8),
and so is the 0 that stands for the time left of the refresh timer when it does not run (log entry 42). The codes of polarity
and edge select are presumed (log entry 13); the one-byte sets of instruments held and of source-offs outstanding (log entry
24) and the 0xFF of an absent error code (log entry 23) are deduced. -/
def Obligations.StatusReportsThePartAsked : Prop :=
  (∀ tag, Answers (.statusSummary tag [0]) ⟨0x02, tag, [0]⟩ (fun _ => True) fun s =>
    send ⟨0x42, tag, [0x00] ++ le32 s.time.toNat ++ summaryPart s⟩ s) ∧
  (∀ tag, Answers (.statusSites tag [1]) ⟨0x02, tag, [1]⟩ (fun _ => True) fun s =>
    send ⟨0x42, tag, [0x00] ++ le32 s.time.toNat ++ sitesPart s⟩ s) ∧
  (∀ tag, Answers (.statusInstruments tag [2]) ⟨0x02, tag, [2]⟩ (fun _ => True) fun s =>
    send ⟨0x42, tag, [0x00] ++ le32 s.time.toNat ++ instrumentsPart s⟩ s) ∧
  (∀ tag (first : Byte), first.toNat < 128 →
    Answers (.statusRoutes tag [3, first]) ⟨0x02, tag, [3, first]⟩ (fun _ => True) fun s =>
      send ⟨0x42, tag, [0x00] ++ le32 s.time.toNat ++
        ((List.range' first.toNat (min 16 (128 - first.toNat))).flatMap (routeItems s))⟩ s) ∧
  (∀ tag, Answers (.statusCards tag [4]) ⟨0x02, tag, [4]⟩ (fun _ => True) fun s =>
    send ⟨0x42, tag, [0x00] ++ le32 s.time.toNat ++ cardsPart s⟩ s) ∧
  (∀ tag, Answers (.statusInputs tag [5]) ⟨0x02, tag, [5]⟩ (fun _ => True) fun s =>
    send ⟨0x42, tag, [0x00] ++ le32 s.time.toNat ++ inputsPart s⟩
      { s with lines := s.lines.map fun x => { x with latchActive := false, latchInactive := false } }) ∧
  (∀ tag (p : Byte), p = 3 ∨ 5 < p.toNat → Refuses (statusRow tag [p]) ⟨0x02, tag, [p]⟩ (fun _ => True) 0x03) ∧
  (∀ tag (p first : Byte), p ≠ 3 ∨ 128 ≤ first.toNat →
    Refuses (statusRow tag [p, first]) ⟨0x02, tag, [p, first]⟩ (fun _ => True) 0x03) ∧
  (∀ s : State,
    let left := fun (x : Timer) => x.duration - (s.time - x.start).toNat
    let leftOr0 := fun (x : Option Timer) => match x with | some x => left x | none => 0
    let flag := fun b : Bool => if b then (1 : Byte) else 0
    let orOnes := fun (width : Nat) (x : Option (List Byte)) => x.getD (List.replicate width 0xFF)
    let stepRef := fun (x : Option StepRef) => match x with
      | some (.slot k) => le16 k
      | some .direct => [0xFF, 0xFF]
      | none => [0xFF, 0xFF]
    (summaryPart s =
      [Config.code .safeCauses (safeSetCode s.safe), flag s.safe.holds,
        Config.code .fixtureState (fixtureStateCode s.fixture.state)] ++
      le16 s.queue.posted.length ++ le16 (1024 - s.queue.posted.length) ++ le32 s.queue.seq.toNat ++
      orOnes 4 (s.queue.posted.head?.map fun x => le32 (recordSeq x).toNat) ++
      ((s.queue.space.take 8).map fun n => BitVec.ofNat 8 n.val) ++ List.replicate (8 - s.queue.space.length) 0xFF ++
      [BitVec.ofNat 8 s.runCount, Config.code .chainPhase (chainPhaseCode s.chain.phase), flag s.chain.dirty,
        flag s.chain.passDue] ++
      le32 s.chain.passNumber.toNat ++ [s.chain.interval] ++ le32 (leftOr0 s.chain.refresh) ++
      le16 s.link.limit.toNat ++ [flag s.link.watchdog.isSome] ++ le32 (leftOr0 s.link.watchdog) ++
      [BitVec.ofNat 8 s.link.rateCode]) ∧
    (sitesPart s = ([0, 1, 2, 3, 4, 5, 6, 7] : List SiteId).flatMap fun n =>
      let c := s.site n
      [Config.code .siteState (siteStateCode c.state), Config.code .phase (phaseCode c.phase)] ++
      (match c.phase with | .wait x => [Config.code .waitReason (waitCode x)] | _ => [0xFF]) ++
      stepRef c.current ++ le16 c.entryStep ++ [flag c.startEnable] ++ le16 c.watchdogLimit.toNat ++
      le32 (leftOr0 c.watchdog) ++ le16 c.runNumber.toNat ++ le32 c.runStart.toNat ++ le32 c.passCount.toNat ++
      le32 c.marginCount.toNat ++ le32 c.failCount.toNat ++ le32 c.noJudgeCount.toNat ++ le32 c.stepsTaken.toNat ++
      [match c.worst with | none => (0 : Byte) | some .pass => 1 | some .margin => 2 | some .fail => 3] ++
      orOnes 1 (c.lastJudgement.map fun x => [BitVec.ofNat 8 (binCode x)]) ++
      orOnes 1 (c.cause.map fun x => [BitVec.ofNat 8 (causeCode x)]) ++
      orOnes 1 (c.errorCode.map fun x => [BitVec.ofNat 8 (errorCode x)]) ++ stepRef c.teardownStep ++
      [flag c.hot, BitVec.ofNat 8 (s.heldSet n).toNat, c.inFlags, c.outFlags] ++
      orOnes 1 (c.teardownPhase.map fun x => [Config.code .teardownPhase (teardownPhaseCode x)]) ++
      orOnes 1 (c.origin.map fun x => [Config.code .origin (originCode x)]) ++ [BitVec.ofNat 8 c.outstanding.toNat] ++
      [Config.code .measurePhase (measurePhaseCode c.meas.phase)] ++
      (if c.meas.phase = .sampling ∨ c.meas.phase = .posting then
        le16 c.meas.taken ++ orOnes 2 ((c.taking.bind StepRecord.sampling).map fun x => le16 x.samples)
      else [0xFF, 0xFF, 0xFF, 0xFF])) ∧
    (instrumentsPart s = ([0, 1, 2, 3, 4, 5] : List InstrId).flatMap fun i =>
      let x := s.record i
      let p := s.port i
      let bus := fun (b : Option BusId) => match b with | some b => BitVec.ofNat 8 b.val | none => (0xFF : Byte)
      orOnes 1 ((s.lease i).holder.map fun n => [BitVec.ofNat 8 n.val]) ++
      (((s.lease i).queue.take 7).map fun n => BitVec.ofNat 8 n.val) ++ List.replicate (7 - (s.lease i).queue.length) 0xFF ++
      [flag x.enable, bus x.hi, bus x.lo, bus x.shi, bus x.slo] ++ le16 x.responseTimeout.toNat ++
      [x.triggerWidth, x.rdyFilter, flag x.sourceCapable] ++
      [Config.code .portState (portStateCode p.state)] ++
      orOnes 1 (p.awaited.map fun a => [Config.code .awaited (awaitedCode a)]) ++
      orOnes 1 (p.user.map fun u => [Config.code .portUser (userCode u)]) ++ [p.seq] ++
      orOnes 1 (p.outstanding.map fun b => [b]) ++ orOnes 4 (p.respTimer.map fun y => le32 (left y)) ++
      orOnes 4 (p.probeTimer.map fun y => le32 (left y)) ++
      [Config.code .sourceState (sourceCode p.source), BitVec.ofNat 8 p.failures] ++
      orOnes 6 (p.lastConfig.map fun f => [f.function, f.range, f.aperture] ++ le24 f.level.toNat) ++
      orOnes 6 (p.lastIdent.map fun y => [y.type, y.revision] ++ le32 y.serial.toNat) ++
      orOnes 1 (p.lastNak.map fun b => [b]) ++ [Config.code .lineLevel (if p.filteredRdy then 0 else 1)]) ∧
    (∀ e : EntryId, routeItems s e = match s.route e with
      | none => 0 :: List.replicate 35 0xFF
      | some x =>
        [1, BitVec.ofNat 8 x.site, x.definition, BitVec.ofNat 8 x.inst,
          match x.terminal with | .hi => 0 | .lo => 1 | .shi => 2 | .slo => 3, BitVec.ofNat 8 x.bus] ++
        ((x.nodes.take 8).flatMap le16) ++ List.replicate (2 * (8 - x.nodes.length)) 0xFF ++
        [Config.code .routeState (routeStateCode x.state), flag x.pendingPass] ++
        orOnes 4 (x.timer.map fun y => le32 (left y)) ++ orOnes 4 (x.madeAt.map fun y => le32 y.toNat) ++
        orOnes 4 (x.zero.map fun z => le32 (z % 4294967296).toNat)) ∧
    (cardsPart s = ([0, 1, 2, 3, 4, 5, 6, 7, 8, 9, 10, 11, 12, 13, 14, 15] : List CardId).flatMap fun k =>
      let c := s.card k
      [Config.code .cardState (cardStateCode c.state)] ++ orOnes 1 (c.id.map fun b => [b]) ++ [c.operate, c.release] ++
      le24 c.threshold.toNat ++ [c.faultCount] ++
      orOnes 1 (c.firstCause.map fun x => [Config.code .cardCause (cardCauseCode x)]) ++ [flag c.relearn]) ∧
    (inputsPart s =
      ([0, 1, 2, 3, 4, 5, 6, 7, 8, 9, 10, 11, 12, 13, 14, 15, 16] : List LineId).flatMap fun l =>
      let x := s.line l
      [x.filter, flag (!x.polarity), if x.edge = .press then 0 else 1,
        Config.code .lineLevel (if x.filtered then 0 else 1),
        Config.code .lineState ((if l.val < 8 then 0 else if l.val < 16 then 2 else 4) + if x.active then 0 else 1),
        flag x.latchActive, flag x.latchInactive]))

/-- COUNTERS_READ replies every group, and FIXTURE_READ the fixture state, the identity held and the engine; both change
nothing. Code bytes without a number in the spec are free values (log entry 4); the order of the CARD group, the 43 bytes of
an identity and the all-ones bytes of absent groups are the model's layout (log entry 8). COUNTERS_CLEAR clears the counters and the
first cause of the group named, and nothing else; a group above 3, and PORT with an index above 5, are refused. -/
def Obligations.CountersAreReportedAndCleared : Prop :=
  ((∀ tag, Answers (.countersRead tag []) ⟨0x03, tag, []⟩ (fun _ => True) fun s =>
     send ⟨0x43, tag, [0x00] ++
       [s.link.counters.crc, s.link.counters.length, s.link.counters.fragment, s.link.counters.overrun,
         s.link.counters.noticeLost] ++ optionCode .linkCounter linkCounterCode s.link.counters.first ++
       [s.link.watchdogs.expiry] ++ s.link.watchdogs.stepExpiry.toList ++
       optionCode .watchdogCounter watchdogCounterCode s.link.watchdogs.first ++
       (allInsts.flatMap fun i =>
         [(s.port i).counters.timeout, (s.port i).counters.checksum, (s.port i).counters.nak, (s.port i).counters.stale,
           (s.port i).counters.lostLink] ++ optionCode .portCounter portCounterCode (s.port i).counters.first) ++
       (allCards.map fun k => (s.card k).faultCount) ++
       (allCards.flatMap fun k => optionCode .cardCause cardCauseCode (s.card k).firstCause)⟩ s) ∧
   (∀ tag, Answers (.fixtureRead tag []) ⟨0x28, tag, []⟩ (fun _ => True) fun s =>
     send ⟨0x68, tag, [0x00] ++ [Config.code .fixtureState (fixtureStateCode s.fixture.state)] ++
       optionCode .loadStep loadStepCode s.fixture.loadStep ++ optionCode .loadCause loadCauseCode s.fixture.loadCause ++
       identityBytes s.fixture.held ++ [Config.code .memoryOwner (ownerCode s.fixture.owner)] ++
       [Config.code .engineState (if s.fixture.busy then 1 else 0)] ++
       packOption 4 (fun c : EngineCommand × Nat × Nat =>
         [Config.code .engineCommand (engineCommandCode c.1)] ++ le16 c.2.1 ++ u8 c.2.2) s.fixture.lastCommand ++
       optionCode .engineError engineErrorCode s.fixture.error⟩ s)) ∧
  ((∀ tag p, Answers (.countersClearLink tag [0, p]) ⟨0x04, tag, [0, p]⟩ (fun _ => True) fun s =>
     send ⟨0x44, tag, [0x00]⟩ { s with link := { s.link with counters := ⟨0, 0, 0, 0, 0, none⟩ } }) ∧
   (∀ tag p, Answers (.countersClearWatchdog tag [1, p]) ⟨0x04, tag, [1, p]⟩ (fun _ => True) fun s =>
     send ⟨0x44, tag, [0x00]⟩ { s with link := { s.link with watchdogs := ⟨0, .replicate 8 0, none⟩ } }) ∧
   (∀ tag (i : InstrId), Answers (.countersClearPort tag [2, BitVec.ofNat 8 i]) ⟨0x04, tag, [2, BitVec.ofNat 8 i]⟩ (fun _ => True) fun s =>
     send ⟨0x44, tag, [0x00]⟩
       { s with ports := s.ports.set i { s.ports[i] with counters := ⟨0, 0, 0, 0, 0, none⟩ } }) ∧
   (∀ tag p, Answers (.countersClearCard tag [3, p]) ⟨0x04, tag, [3, p]⟩ (fun _ => True) fun s =>
     send ⟨0x44, tag, [0x00]⟩ { s with chain := { s.chain with
       cards := s.chain.cards.map fun c => { c with faultCount := 0, firstCause := none } } }) ∧
   (∀ tag (g p : Byte), 3 < g.toNat ∨ (g = 2 ∧ 5 < p.toNat) →
     Refuses (countersClearRow tag [g, p]) ⟨0x04, tag, [g, p]⟩ (fun _ => True) 0x03))

/-! ### Steps and their ends -/

/-- The end of a step. In RUN the outcome selects what follows: END after a step of kind END, `on_fail` (or `next` where it
is absent) after a judged fail, `next` otherwise. A DIRECT step is reported by STEP_DONE (0 DONE, 1 FAIL; the notice's
outcome byte is a free value, log entry 4) and the site has no step. What is selected waits its turn in the agenda (the
model's own, log entry 10). A step error tears a run down with STEP_ERROR and its code; a DIRECT step is abandoned and
reported ERROR, and its site stays in MANUAL. What was selected is taken in its turn: END leads to TEARDOWN with COMPLETE. A
site in RUN takes the step selected for it: the slot is the current step, the steps-taken count
increases and saturates, the step watchdog restarts, and the record's own rule runs; an empty slot is BADSTEP. A site that
has left RUN takes nothing. The bound on steps in one event is the model's choice (log entry 6). -/
def Obligations.StepsEndAndAreSelected : Prop :=
  ((∀ (n : SiteId) (failed : Bool) (bin : Option Bin) (r : StepRecord) (s : State),
     (s.site n).taking = some r → (s.site n).state = .run → finishStep n failed bin s =
       { s.setSite n { s.site n with
           phase := .step, taking := none, stepTimer := none, settleOn := none, needNodes := [] } with
         agenda := s.agenda ++ [(n,
           if r.kind = .chainEnd then .enter .complete none
           else
             match if failed then r.onFail.getD r.next else r.next with
             | .slot k => .take k
             | .chainEnd => .enter .complete none)] }) ∧
   (∀ (n : SiteId) (failed : Bool) (bin : Option Bin) (r : StepRecord) (s : State),
     (s.site n).taking = some r → (s.site n).state = .manual → finishStep n failed bin s =
       notice 0x82
         ([BitVec.ofNat 8 n] ++ [BitVec.ofNat 8 (stepKindCode r.kind)] ++ le16 r.tag.toNat ++
           [Config.code .stepOutcome (if failed then 1 else 0)] ++
           (match bin with | some b => [BitVec.ofNat 8 (binCode b)] | none => [0xFF]) ++ [0xFF] ++ le32 s.time.toNat)
         (s.setSite n { s.site n with
           phase := .noStep, taking := none, stepTimer := none, settleOn := none, needNodes := [] }))) ∧
  (([.badStep, .noLease, .order, .window, .conflict, .routesFull, .noCard, .hot, .noRoute, .routeFault, .timeout, .nak,
       .offline, .noZeroOvr, .safe] : List StepError).map errorCode = List.range' 1 15 ∧
   (∀ (n : SiteId) (err : StepError) (s : State), (s.site n).state = .run →
     stepError n err s = runTeardown n (teardownEntry n .stepError (some err) s)) ∧
   (∀ (n : SiteId) (err : StepError) (r : StepRecord) (s : State), (s.site n).state = .manual →
     (s.site n).phase ≠ .noStep → (s.site n).taking = some r → stepError n err s =
       notice 0x82
         ([BitVec.ofNat 8 n] ++ [BitVec.ofNat 8 (stepKindCode r.kind)] ++ le16 r.tag.toNat ++
           [Config.code .stepOutcome 2, 0xFF, BitVec.ofNat 8 (errorCode err)] ++ le32 s.time.toNat)
         ((abandonStep n s).setSite n { (abandonStep n s).site n with phase := .noStep })) ∧
   (∀ (n : SiteId) (err : StepError) (s : State), (s.site n).state ≠ .run →
     (s.site n).state ≠ .manual ∨ (s.site n).phase = .noStep ∨ (s.site n).taking = none → stepError n err s = s)) ∧
  ((∀ (n : SiteId) (k : Nat) (r : StepRecord) (rest : List (SiteId × Todo)) (s : State), s.agenda = (n, .take k) :: rest →
     (s.site n).state = .run → s.steps.get k = some r → settle s = runAgenda 4095 (performStep n r
       ({ s with agenda := rest }.setSite n { s.site n with
         current := some (.slot k)
         phase := .step
         stepsTaken := if (s.site n).stepsTaken = 4294967295 then 4294967295 else (s.site n).stepsTaken + 1
         watchdog := if (s.site n).watchdogLimit.toNat = 0 then none
                     else some ⟨s.time, (s.site n).watchdogLimit.toNat * 1000⟩
         taking := some r }))) ∧
   (∀ (n : SiteId) (k : Nat) (rest : List (SiteId × Todo)) (s : State), s.agenda = (n, .take k) :: rest →
     (s.site n).state = .run → s.steps.get k = none → settle s = runAgenda 4095 (stepError n .badStep
       ({ s with agenda := rest }.setSite n { s.site n with
         current := some (.slot k)
         phase := .step
         stepsTaken := if (s.site n).stepsTaken = 4294967295 then 4294967295 else (s.site n).stepsTaken + 1
         watchdog := if (s.site n).watchdogLimit.toNat = 0 then none
                     else some ⟨s.time, (s.site n).watchdogLimit.toNat * 1000⟩ }))) ∧
   (∀ (n : SiteId) (cause : Cause) (err : Option StepError) (rest : List (SiteId × Todo)) (s : State),
     s.agenda = (n, .enter cause err) :: rest → (s.site n).state = .run →
     settle s = runAgenda 4095 (runTeardown n (teardownEntry n cause err { s with agenda := rest }))) ∧
   (∀ (n : SiteId) (todo : Todo) (rest : List (SiteId × Todo)) (s : State), s.agenda = (n, todo) :: rest →
     (s.site n).state ≠ .run → settle s = runAgenda 4095 { s with agenda := rest }) ∧
   (∀ s : State, s.agenda = [] → settle s = s))

/-- DELAY, SIGNAL, WAIT_FLAG and END as a site takes them: done at once, or waiting under their timer. The timers of a step:
DELAY ends as done, WAIT_FLAG as judged fail, and the step watchdog counts and tears the run down with STEP_TIMEOUT. An
expiry is reached when its timer has run, or when nothing is due and no timer that runs (a poll of the fixture memory's write
cycle among them) expires before it, and time then passes to it; an expiry that is not reached changes nothing (log entry 2), nor does one whose timer does not run (log entry
27). So no DELAY and no flag wait outlasts the step watchdog, and no watchdog a WAIT_FLAG's timeout. -/
def Obligations.SiteStepsRunAndTimeOut : Prop :=
  ((∀ (n : SiteId) (r : StepRecord) (s : State), r.kind = .delay 0 ∨ r.kind = .chainEnd →
     performStep n r s = finishStep n false none s) ∧
   (∀ (n : SiteId) (r : StepRecord) (d : BitVec 24) (s : State), r.kind = .delay d → d ≠ 0 →
     performStep n r s = s.setSite n { s.site n with
       phase := .wait .delay, stepTimer := some ⟨s.time, d.toNat⟩ }) ∧
   (∀ (n : SiteId) (r : StepRecord) (m : Byte) (s : State), r.kind = .signal m →
     performStep n r s = finishStep n false none
       (if (s.site n).outFlags ||| m = (s.site n).outFlags then s
       else notice 0x83 ([BitVec.ofNat 8 n, (s.site n).outFlags ||| m] ++ le32 s.time.toNat)
         (s.setSite n { s.site n with outFlags := (s.site n).outFlags ||| m }))) ∧
   (∀ (n : SiteId) (r : StepRecord) (m : Byte) (mode : FlagMode) (t : BitVec 16) (s : State), r.kind = .waitFlag m mode t →
     performStep n r s =
       if (mode = .any ∧ (s.site n).inFlags &&& m ≠ 0) ∨ (mode = .all ∧ (s.site n).inFlags &&& m = m) then
         finishStep n false none (s.setSite n { s.site n with inFlags := (s.site n).inFlags &&& ~~~m })
       else s.setSite n { s.site n with
         phase := .wait .flag, stepTimer := if t.toNat = 0 then none else some ⟨s.time, t.toNat * 1000⟩ })) ∧
  ((∀ (n : SiteId) (t : Timer) (s : State), (s.site n).phase = .wait .delay → (s.site n).stepTimer = some t →
     (s.reaches t = true → exec (.delayExpiry n) s = .next (settle (finishStep n false none (s.passTo t)))) ∧
     (s.reaches t = false → exec (.delayExpiry n) s = .next s)) ∧
   (∀ (n : SiteId) (t : Timer) (s : State), (s.site n).phase = .wait .flag → (s.site n).stepTimer = some t →
     (s.reaches t = true → exec (.waitFlagTimeout n) s = .next (settle (finishStep n true none (s.passTo t)))) ∧
     (s.reaches t = false → exec (.waitFlagTimeout n) s = .next s)) ∧
   (∀ (n : SiteId) (t : Timer) (s : State), (s.site n).state = .run → (s.site n).watchdog = some t →
     s.reaches t = false → exec (.stepWatchdogExpiry n) s = .next s) ∧
   (∀ (n : SiteId) (t : Timer) (s : State), (s.site n).state = .run → (s.site n).watchdog = some t → s.reaches t = true →
     exec (.stepWatchdogExpiry n) s = .next
       (let u := s.passTo t
       settle (enterTeardown n .stepTimeout none
         { u with link := { u.link with watchdogs := u.link.watchdogs.bump (.site n) } }))) ∧
   (∀ (n : SiteId) (s : State), (s.site n).phase ≠ .wait .delay → exec (.delayExpiry n) s = .next s) ∧
   (∀ (n : SiteId) (s : State), (s.site n).phase ≠ .wait .flag ∨ (s.site n).stepTimer = none →
     exec (.waitFlagTimeout n) s = .next s) ∧
   (∀ (n : SiteId) (s : State), (s.site n).state ≠ .run ∨ (s.site n).watchdog = none →
     exec (.stepWatchdogExpiry n) s = .next s) ∧
   (∀ (t : Timer) (s : State), t.duration < 4294967296 → t.duration ≤ ((s.passTo t).time - t.start).toNat)) ∧
  ((∀ (t : Timer) (s : State), s.reaches t = true ↔ t.duration ≤ (s.time - t.start).toNat ∨
     (s.agenda = [] ∧ dueEvent s = none ∧
       (∀ x ∈ s.running, t.duration - (s.time - t.start).toNat ≤ x.1.duration - (s.time - x.1.start).toNat) ∧
       ∀ length polls x, s.fixture.transfer = some (.poll length polls x) →
         t.duration - (s.time - t.start).toNat ≤ x.duration - (s.time - x.start).toNat)) ∧
   (∀ (t : Timer) (s : State),
     (∀ n : SiteId, (t, .stepWatchdogExpiry n) ∈ s.running ↔ (s.site n).state = .run ∧ (s.site n).watchdog = some t) ∧
     (∀ n : SiteId, (t, .delayExpiry n) ∈ s.running ↔ (s.site n).phase = .wait .delay ∧ (s.site n).stepTimer = some t) ∧
     (∀ n : SiteId, (t, .waitFlagTimeout n) ∈ s.running ↔ (s.site n).phase = .wait .flag ∧ (s.site n).stepTimer = some t)) ∧
   (∀ (n : SiteId) (t w : Timer) (s : State), (s.site n).state = .run → (s.site n).watchdog = some w →
     (s.site n).stepTimer = some t →
     (w.duration - (s.time - w.start).toNat < t.duration - (s.time - t.start).toNat →
       exec (.delayExpiry n) s = .next s ∧ exec (.waitFlagTimeout n) s = .next s) ∧
     ((s.site n).phase = .wait .flag → t.duration - (s.time - t.start).toNat < w.duration - (s.time - w.start).toNat →
       exec (.stepWatchdogExpiry n) s = .next s)))

/-! ### Runs and MANUAL -/

/-- SITE_SET replaces a site's entry step, start enable and step watchdog limit; a site above 7, an entry step above 2,047
and a start enable that is no flag (log entry 9) are refused. VAR_SET writes one variable of a site at rest or in MANUAL (an
invalid one as 0) and VAR_READ replies all eight; the refusals are those of the site's state and of the ranges. FLAG_RAISE
sets in-flags behind its reply and completes a WAIT_FLAG whose mask they satisfy; FLAG_CLEAR clears out-flags and in-flags
and completes nothing. A site above 7 is refused. -/
def Obligations.SiteSettingsVariablesAndFlagsAreSet : Prop :=
  ((∀ (tag e0 e1 on l0 l1 : Byte) (n : SiteId), read16 e0 e1 ≤ 2047 → on.toNat ≤ 1 →
     Answers (.siteSet tag [BitVec.ofNat 8 n, e0, e1, on, l0, l1]) ⟨0x18, tag, [BitVec.ofNat 8 n, e0, e1, on, l0, l1]⟩
       (fun _ => True) fun s => send ⟨0x58, tag, [0x00]⟩ (s.setSite n { s.site n with
         entryStep := read16 e0 e1, startEnable := on = 1, watchdogLimit := l1 ++ l0 })) ∧
   (∀ tag site e0 e1 on l0 l1 : Byte, 7 < site.toNat ∨ 2047 < read16 e0 e1 ∨ 1 < on.toNat →
     Refuses (.siteSet tag [site, e0, e1, on, l0, l1]) ⟨0x18, tag, [site, e0, e1, on, l0, l1]⟩ (fun _ => True) 0x03)) ∧
  ((∀ (tag v0 v1 v2 v3 valid : Byte) (n : SiteId) (k : Fin 8),
     let v := signed32 (read32 v0 v1 v2 v3)
     let body := [BitVec.ofNat 8 n, BitVec.ofNat 8 k, v0, v1, v2, v3, valid]
     v ≤ 134217727 → -134217727 ≤ v → valid.toNat ≤ 1 →
     Answers (.varSet tag body) ⟨0x1E, tag, body⟩ (fun s => (s.site n).state ≠ .run ∧ (s.site n).state ≠ .teardown)
       (fun s => send ⟨0x5E, tag, [0x00]⟩ (s.setSite n { s.site n with
         vars := (s.site n).vars.set k (if valid = 1 then ⟨v, true⟩ else ⟨0, false⟩) })) ∧
     Refuses (.varSet tag body) ⟨0x1E, tag, body⟩ (fun s => (s.site n).state = .run ∨ (s.site n).state = .teardown) 0x04) ∧
   (∀ tag site index v0 v1 v2 v3 valid : Byte,
     7 < site.toNat ∨ 7 < index.toNat ∨ 134217727 < (signed32 (read32 v0 v1 v2 v3)).natAbs ∨ 1 < valid.toNat →
     Refuses (.varSet tag [site, index, v0, v1, v2, v3, valid]) ⟨0x1E, tag, [site, index, v0, v1, v2, v3, valid]⟩
       (fun _ => True) 0x03) ∧
   (∀ (tag : Byte) (n : SiteId), Answers (.varRead tag [BitVec.ofNat 8 n]) ⟨0x1F, tag, [BitVec.ofNat 8 n]⟩
     (fun _ => True) fun s => send ⟨0x5F, tag, 0x00 :: ((s.site n).vars.toList.flatMap fun v =>
       le32 (v.value % 4294967296).toNat ++ [if v.valid then 1 else 0])⟩ s) ∧
   (∀ tag site : Byte, 7 < site.toNat → Refuses (.varRead tag [site]) ⟨0x1F, tag, [site]⟩ (fun _ => True) 0x03)) ∧
  ((∀ (tag m : Byte) (n : SiteId),
     Answers (.flagRaise tag [BitVec.ofNat 8 n, m]) ⟨0x20, tag, [BitVec.ofNat 8 n, m]⟩
       (fun s => s.agenda = [] ∧ (s.site n).phase ≠ .wait .flag) fun s =>
         send ⟨0x60, tag, [0x00]⟩ (s.setSite n { s.site n with inFlags := (s.site n).inFlags ||| m })) ∧
   (∀ (tag m : Byte) (n : SiteId) (r : StepRecord) (mask : Byte) (mode : FlagMode) (t : BitVec 16),
     r.kind = .waitFlag mask mode t →
     Answers (.flagRaise tag [BitVec.ofNat 8 n, m]) ⟨0x20, tag, [BitVec.ofNat 8 n, m]⟩
       (fun s => s.agenda = [] ∧ (s.site n).phase = .wait .flag ∧ (s.site n).taking = some r) fun s =>
         let flags := (s.site n).inFlags ||| m
         let t := send ⟨0x60, tag, [0x00]⟩ (s.setSite n { s.site n with inFlags := flags })
         if maskSatisfied mode mask flags then
           settle (finishStep n false none (t.setSite n { t.site n with phase := .step, inFlags := flags &&& ~~~mask }))
         else t) ∧
   (∀ (tag o m : Byte) (n : SiteId),
     Answers (.flagClear tag [BitVec.ofNat 8 n, o, m]) ⟨0x21, tag, [BitVec.ofNat 8 n, o, m]⟩ (fun _ => True) fun s =>
       send ⟨0x61, tag, [0x00]⟩ (s.setSite n { s.site n with
         outFlags := (s.site n).outFlags &&& ~~~o, inFlags := (s.site n).inFlags &&& ~~~m })) ∧
   (∀ tag site o m : Byte, 7 < site.toNat →
     Refuses (.flagRaise tag [site, m]) ⟨0x20, tag, [site, m]⟩ (fun s => s.agenda = []) 0x03 ∧
     Refuses (.flagClear tag [site, o, m]) ⟨0x21, tag, [site, o, m]⟩ (fun _ => True) 0x03))

/-- START of an IDLE site begins a run when the safe state does not hold and the queue can take the reserve: the run number
follows the last (1 after 65,535), the counters are cleared, the entry step is selected, and the reply carries the run
number. Otherwise it is refused, in the order SAFE, STATE, NO_ROOM; fields out of range are refused before those, a clear
flag above 1 among them (log entry 9). -/
def Obligations.StartBeginsARun : Prop :=
  (∀ (tag e0 e1 clear : Byte) (n : SiteId), read16 e0 e1 < 2048 ∨ read16 e0 e1 = 0xFFFF → clear.toNat ≤ 1 →
    Answers (.start tag [BitVec.ofNat 8 n, e0, e1, clear]) ⟨0x19, tag, [BitVec.ofNat 8 n, e0, e1, clear]⟩
      (fun s => s.safe = ⟨false, false, false⟩ ∧ (s.site n).state = .idle ∧ s.runCount < s.free) fun s =>
        let number : BitVec 16 := if (s.site n).runNumber = 65535 then 1 else (s.site n).runNumber + 1
        settle (send ⟨0x59, tag, [0x00] ++ le16 number.toNat⟩
          { s.setSite n { s.site n with
              state := .run, phase := .step, runNumber := number, runStart := s.time, passCount := 0, marginCount := 0,
              failCount := 0, noJudgeCount := 0, stepsTaken := 0, worst := none, lastJudgement := none, cause := none,
              errorCode := none, teardownStep := none, hot := false, origin := none
              vars := if clear = 1 then .replicate 8 ⟨0, false⟩ else (s.site n).vars } with
            agenda := s.agenda ++
              [(n, .take (if read16 e0 e1 = 0xFFFF then (s.site n).entryStep else read16 e0 e1))] })) ∧
  (∀ (tag e0 e1 clear : Byte) (n : SiteId), read16 e0 e1 < 2048 ∨ read16 e0 e1 = 0xFFFF → clear.toNat ≤ 1 →
    let c := Instr.start tag [BitVec.ofNat 8 n, e0, e1, clear]
    let f : Frame := ⟨0x19, tag, [BitVec.ofNat 8 n, e0, e1, clear]⟩
    Refuses c f (fun s => s.agenda = [] ∧ s.safe ≠ ⟨false, false, false⟩) 0x07 ∧
    Refuses c f (fun s => s.agenda = [] ∧ s.safe = ⟨false, false, false⟩ ∧ (s.site n).state ≠ .idle) 0x04 ∧
    Refuses c f (fun s => s.agenda = [] ∧ s.safe = ⟨false, false, false⟩ ∧ (s.site n).state = .idle ∧
      s.free ≤ s.runCount) 0x06) ∧
  (∀ tag site e0 e1 clear : Byte,
    7 < site.toNat ∨ (2048 ≤ read16 e0 e1 ∧ read16 e0 e1 ≠ 0xFFFF) ∨ 1 < clear.toNat →
    Refuses (.start tag [site, e0, e1, clear]) ⟨0x19, tag, [site, e0, e1, clear]⟩ (fun s => s.agenda = []) 0x03)

/-- MANUAL moves an IDLE site into MANUAL; it is refused in the safe state and from any other site state. DIRECT has a MANUAL
site without a step take the record carried, behind its reply; it is refused in the safe state, from any other site state,
while a step is in progress, and for a record outside its ranges. -/
def Obligations.ManualAndDirectStepASite : Prop :=
  ((∀ (tag : Byte) (n : SiteId),
     let c := Instr.manual tag [BitVec.ofNat 8 n]
     let f : Frame := ⟨0x1B, tag, [BitVec.ofNat 8 n]⟩
     Answers c f (fun s => s.safe = ⟨false, false, false⟩ ∧ (s.site n).state = .idle) (fun s =>
       send ⟨0x5B, tag, [0x00]⟩ (s.setSite n { s.site n with
         state := .manual, phase := .noStep, current := none, cause := none, errorCode := none, teardownStep := none,
         hot := false, origin := none })) ∧
     Refuses c f (fun s => s.safe ≠ ⟨false, false, false⟩) 0x07 ∧
     Refuses c f (fun s => s.safe = ⟨false, false, false⟩ ∧ (s.site n).state ≠ .idle) 0x04) ∧
   (∀ tag site : Byte, 7 < site.toNat →
     Refuses (.manual tag [site]) ⟨0x1B, tag, [site]⟩ (fun _ => True) 0x03)) ∧
  ((∀ (tag : Byte) (n : SiteId) (r : StepRecord), r.inRange = true →
     let c := Instr.direct tag (BitVec.ofNat 8 n :: stepRecordBytes r)
     let f : Frame := ⟨0x1C, tag, BitVec.ofNat 8 n :: stepRecordBytes r⟩
     Answers c f (fun s => s.safe = ⟨false, false, false⟩ ∧ (s.site n).state = .manual ∧ (s.site n).phase = .noStep)
       (fun s => settle (performStep n r (send ⟨0x5C, tag, [0x00]⟩ (s.setSite n { s.site n with
         current := some .direct, phase := .step, taking := some r })))) ∧
     Refuses c f (fun s => s.agenda = [] ∧ s.safe ≠ ⟨false, false, false⟩) 0x07 ∧
     Refuses c f (fun s => s.agenda = [] ∧ s.safe = ⟨false, false, false⟩ ∧ (s.site n).state ≠ .manual) 0x04 ∧
     Refuses c f (fun s => s.agenda = [] ∧ s.safe = ⟨false, false, false⟩ ∧ (s.site n).state = .manual ∧
       (s.site n).phase ≠ .noStep) 0x05) ∧
   (∀ (tag site : Byte) (record : List Byte), record.length = 20 → 7 < site.toNat ∨ readStepRecord record = none →
     Refuses (.direct tag (site :: record)) ⟨0x1C, tag, site :: record⟩ (fun s => s.agenda = []) 0x03))

/-- ABORT and SITE_CLEAR put a site into TEARDOWN, reply, and go on with its phases; in other site states they are
refused. -/
def Obligations.AbortAndSiteClearTearDown : Prop :=
  (∀ (tag : Byte) (n : SiteId),
    Answers (.abort tag [BitVec.ofNat 8 n]) ⟨0x1A, tag, [BitVec.ofNat 8 n]⟩
      (fun s => (s.site n).state = .run ∨ (s.site n).state = .manual)
      (fun s => settle (runTeardown n (send ⟨0x5A, tag, [0x00]⟩ (teardownEntry n .hostAbort none s)))) ∧
    Refuses (.abort tag [BitVec.ofNat 8 n]) ⟨0x1A, tag, [BitVec.ofNat 8 n]⟩
      (fun s => s.agenda = [] ∧ (s.site n).state ≠ .run ∧ (s.site n).state ≠ .manual) 0x04 ∧
    Answers (.siteClear tag [BitVec.ofNat 8 n]) ⟨0x1D, tag, [BitVec.ofNat 8 n]⟩ (fun s => (s.site n).state = .manual)
      (fun s => settle (runTeardown n (send ⟨0x5D, tag, [0x00]⟩ (teardownEntry n .cleared none s)))) ∧
    Refuses (.siteClear tag [BitVec.ofNat 8 n]) ⟨0x1D, tag, [BitVec.ofNat 8 n]⟩
      (fun s => s.agenda = [] ∧ (s.site n).state ≠ .manual) 0x04) ∧
  (∀ tag site : Byte, 7 < site.toNat →
    Refuses (.abort tag [site]) ⟨0x1A, tag, [site]⟩ (fun s => s.agenda = []) 0x03 ∧
    Refuses (.siteClear tag [site]) ⟨0x1D, tag, [site]⟩ (fun s => s.agenda = []) 0x03)

/-! ### Teardown -/

/-- What the entry into TEARDOWN writes: the state, where it came from, the cause, the error code, the step it ended at, the
HOT mark cleared, the step watchdog stopped; a DIRECT step in progress is reported ABORTED. A site at rest or in TEARDOWN is
left alone. STOP abandons the step: its fields are emptied, the site leaves every wait queue and the space list, a port
engaged for it sends CANCEL and drops its exchange (an OUTPUT leaves the source state UNKNOWN, but an OUTPUT OFF leaves OFF),
a spacing wait of its own is dropped, and nothing else changes; QUIET follows. An order of the safety controller is taken at
its site: a site in RUN or MANUAL enters TEARDOWN with the cause it carries, another site is left alone. That a port
abandoned by STOP has no user during its CANCEL is deduced (log entry 21), the ABORTED outcome is a free value (log entry 4),
and that what the site had on the agenda is dropped is the model's choice (log entry 10). Orders on their way are lists taken
from their head, and stay until they are taken (log entry 19), and with none on its way SAFE_ORDER changes nothing (log entry
27). -/
def Obligations.TeardownIsEntered : Prop :=
  ((∀ (n : SiteId) (cause : Cause) (err : Option StepError) (s : State), (s.site n).state = .run →
     teardownEntry n cause err s = s.setSite n { s.site n with
       state := .teardown, origin := some .run, cause := some cause, errorCode := err, teardownStep := (s.site n).current,
       hot := false, phase := .noStep, watchdog := none, outstanding := 0, teardownPhase := some .stop }) ∧
   (∀ (n : SiteId) (cause : Cause) (err : Option StepError) (s : State), (s.site n).state = .manual →
     let t := s.setSite n { s.site n with
       state := .teardown, origin := some .manual, cause := some cause, errorCode := err,
       teardownStep := (s.site n).current, hot := false, phase := .noStep, watchdog := none, outstanding := 0,
       teardownPhase := some .stop }
     teardownEntry n cause err s =
       match (s.site n).phase, (s.site n).taking with
       | .noStep, _ | _, none => t
       | _, some r =>
         notice 0x82 ([BitVec.ofNat 8 n] ++ [BitVec.ofNat 8 (stepKindCode r.kind)] ++ le16 r.tag.toNat ++
           [Config.code .stepOutcome 3, 0xFF, 0xFF] ++ le32 s.time.toNat) t) ∧
   (∀ (n : SiteId) (cause : Cause) (err : Option StepError) (s : State),
     (s.site n).state ≠ .run → (s.site n).state ≠ .manual → enterTeardown n cause err s = s) ∧
   (∀ (n : SiteId) (cause : Cause) (err : Option StepError) (s : State),
     (s.site n).state = .run ∨ (s.site n).state = .manual →
     enterTeardown n cause err s = runTeardown n (teardownEntry n cause err s))) ∧
  ((∀ (n : SiteId) (s : State), (s.site n).state = .teardown → (s.site n).teardownPhase = some .stop →
     runTeardown n s = quietPhase n (abandonStep n s)) ∧
   (∀ (n : SiteId) (s : State),
     let t := abandonStep n s
     t.site n = { s.site n with
       taking := none, stepTimer := none, settleOn := none, needNodes := [], meas := .empty } ∧
     (∀ m, m ≠ n → t.site m = s.site m) ∧
     (∀ i, t.lease i = { s.lease i with queue := (s.lease i).queue.filter fun m => m ≠ n }) ∧
     t.queue = { s.queue with space := s.queue.space.filter fun m => m ≠ n } ∧
     t.agenda = (s.agenda.filter fun x => x.1 ≠ n) ∧
     (∀ i,
       let p := s.port i
       let engaged := (p.state = .command ∧ p.awaited ≠ none ∧ p.awaited ≠ some .cancel) ∨ p.state = .triggered ∨
         p.state = .fetching
       (p.user = some (.site n) ∧ engaged → t.port i = { p with
         state := .command, awaited := some .cancel, user := none, outstanding := none, respTimer := none
         sentConfig := none, seq := p.seq + 1, rxBytes := [], cancelEnd := .idle
         lastSent := messageBytes ⟨0x05, p.seq + 1, []⟩
         source := if p.awaited = some .outputOn ∨ (p.awaited = some .outputOff ∧ p.source ≠ .off) then
             if (s.record i).sourceCapable then .unknown else .off
           else p.source }) ∧
       (¬(p.user = some (.site n) ∧ engaged) →
         (∀ x, p.spacing = some (n, x) → t.port i = { p with spacing := none }) ∧
         ((∀ x, p.spacing ≠ some (n, x)) → t.port i = p))) ∧
     t = { s with sites := t.sites, leases := t.leases, queue := t.queue, agenda := t.agenda, ports := t.ports })) ∧
  ((∀ (n : SiteId) (cause : Cause) (rest : List Cause) (s : State), s.orders[n] = cause :: rest →
     exec (.safeOrder n) s = .next (settle (enterTeardown n cause none { s with orders := s.orders.set n rest }))) ∧
   (∀ (n : SiteId) (s : State), s.orders[n] = [] → exec (.safeOrder n) s = .next s))

/-- A run torn down while it holds nothing, has no route and no message on a port ends in the same event: its RUN_END record
is posted with the counts of the run and the verdict of its cause and worst bin, and the site rests. With something to give
back the phases take it in order: BREAK takes every route of the site that is not breaking to BREAKING, its crosspoints out of
the commanded image, and waits while the site has an entry in use; RELEASE hands every instrument held to the head of its
queue; RECORD posts the RUN_END record of a run, with its notices, returns the site to rest, and examines the space list, or
just returns a site from MANUAL to rest. -/
def Obligations.RunEndsWithItsRecord : Prop :=
  ((∀ (n : SiteId) (s : State), s.siteEntries n = [] → breakPhase n s =
     releasePhase n (s.setSite n { s.site n with teardownPhase := some .breakRoutes })) ∧
   (∀ (n : SiteId) (s : State), (∀ e, e ∈ s.siteEntries n ↔ ∃ r, s.route e = some r ∧ r.site = n) ∧
     (s.siteEntries n ≠ [] →
       let t := breakPhase n s
       (t.site n = { s.site n with teardownPhase := some .breakRoutes }) ∧ (∀ m, m ≠ n → t.site m = s.site m) ∧
       (∀ e, t.route e = (s.route e).map fun r =>
         if r.site = n ∧ r.state ≠ .breaking then { r with state := .breaking, pendingPass := true, timer := none } else r) ∧
       (∀ (k : CardId) (place : Nat), (t.image[k]).getLsbD place = true ↔ (s.image[k]).getLsbD place = true ∧
         ¬∃ e r p, s.route e = some r ∧ r.site = n ∧ r.state ≠ .breaking ∧ p ∈ r.nodes ∧ p / 32 % 16 = k.val ∧
           32 * r.bus.val + p % 32 = place) ∧
       ((∃ e r, s.route e = some r ∧ r.site = n ∧ r.state ≠ .breaking) → s.chain.phase = .idle →
         t.chain.passNumber = s.chain.passNumber + 1 ∧ t.chain.snapshot = t.image) ∧
       ((∃ e r, s.route e = some r ∧ r.site = n ∧ r.state ≠ .breaking) → s.chain.phase ≠ .idle →
         t.chain = { s.chain with dirty := true }) ∧
       ((∀ e r, s.route e = some r → r.site = n → r.state = .breaking) → t.chain = s.chain) ∧
       t = { s with sites := t.sites, routes := t.routes, image := t.image, chain := t.chain })) ∧
   (∀ (n : SiteId) (s : State), ∃ t,
     t = { s.setSite n { s.site n with teardownPhase := some .release } with leases := t.leases } ∧
     (∀ i, t.lease i =
       if (s.lease i).holder = some n then
         match (s.lease i).queue with
         | [] => ⟨none, []⟩
         | head :: rest => ⟨some head, rest⟩
       else s.lease i) ∧
     releasePhase n s = recordPhase n t) ∧
   (∀ (n : SiteId) (s : State),
     let rest := fun t : State => t.setSite n { s.site n with
       state := if s.usable n then .idle else .unseated, current := none, teardownPhase := none }
     ((s.site n).origin ≠ some .run → recordPhase n s = rest s) ∧
     ((s.site n).origin = some .run →
       let c := s.site n
       let verdict := if c.cause = some .complete then
           match c.worst with
           | some .fail => Verdict.fail
           | some .margin => .margin
           | _ => .pass
         else .aborted
       let t := notice 0x81
         ([BitVec.ofNat 8 n] ++ le16 c.runNumber.toNat ++ le32 s.queue.seq.toNat ++
           [match c.cause with | some x => BitVec.ofNat 8 (causeCode x) | none => 0xFF,
             match c.errorCode with | some x => BitVec.ofNat 8 (errorCode x) | none => 0xFF,
             BitVec.ofNat 8 (verdictCode verdict), if c.hot then 1 else 0] ++ le32 s.time.toNat)
         (rest { s with queue := { s.queue with
           seq := s.queue.seq + 1
           posted := s.queue.posted ++ [.runEnd
             { seq := s.queue.seq, site := n, runNumber := c.runNumber, cause := c.cause, errorCode := c.errorCode
               step := c.teardownStep, passCount := c.passCount, marginCount := c.marginCount, failCount := c.failCount
               noJudgeCount := c.noJudgeCount, stepsTaken := c.stepsTaken, worst := c.worst, verdict := verdict
               hot := c.hot, start := c.runStart, duration := s.time - c.runStart }] } })
       recordPhase n s = examineSpace
         (if s.queue.posted = [] then
           notice 0x80 (le32 s.queue.seq.toNat ++ [0x03, BitVec.ofNat 8 n] ++ le32 s.time.toNat) t
         else t)))) ∧
  ∀ (n : SiteId) (cause : Cause) (err : Option StepError) (s : State), (s.site n).state = .run →
    (∀ i, (s.lease i).holder ≠ some n ∧ (s.port i).user ≠ some (.site n) ∧ (s.port i).spacing = none) →
    s.siteEntries n = [] → s.queue.space = [] →
    let t := enterTeardown n cause err s
    t.queue = ⟨s.queue.posted ++ [.runEnd
      { seq := s.queue.seq, site := n, runNumber := (s.site n).runNumber, cause := some cause, errorCode := err
        step := (s.site n).current, passCount := (s.site n).passCount, marginCount := (s.site n).marginCount
        failCount := (s.site n).failCount, noJudgeCount := (s.site n).noJudgeCount
        stepsTaken := (s.site n).stepsTaken, worst := (s.site n).worst
        verdict := if cause = .complete then
            match (s.site n).worst with
            | some .fail => .fail
            | some .margin => .margin
            | _ => .pass
          else .aborted
        hot := false, start := (s.site n).runStart, duration := s.time - (s.site n).runStart }],
      s.queue.seq + 1, []⟩ ∧
    (t.site n).state = (if s.usable n then .idle else .unseated) ∧ (t.site n).current = none ∧
    (t.site n).teardownPhase = none ∧ (t.site n).cause = some cause ∧ (t.site n).errorCode = err ∧
    (t.site n).teardownStep = (s.site n).current ∧ (t.site n).phase = .noStep ∧ (t.site n).meas = .empty ∧
    (t.site n).vars = (s.site n).vars ∧ t.routes = s.routes ∧ t.image = s.image ∧ t.chain = s.chain ∧
    (∀ m, m ≠ n → t.site m = s.site m) ∧ (∀ i, (t.lease i).holder = (s.lease i).holder) ∧ t.ports = s.ports

/-- QUIET asks exactly the instruments that the site holds and whose source state is not OFF, in increasing index, and each is
outstanding; when there is none, BREAK follows in the same event. An instrument that is asked: a port that is out of service reports NOT_SENT, an IDLE one sends
OUTPUT OFF, another holds the request until it leaves COMMAND. An outcome that is taken clears its bit, marks HOT unless it
is ACKED, and the last one ends QUIET. A source-off that was held is asked anew when the port leaves COMMAND. A QUIET_OUTCOME
with none on its way, or for a site that is not in QUIET, does nothing to the site (log entry 27). -/
def Obligations.QuietAsksAndCollects : Prop :=
  (∀ (n : SiteId) (s : State),
    (s.quietAsked n).Pairwise (· < ·) ∧
    (∀ i, i ∈ s.quietAsked n ↔ (s.lease i).holder = some n ∧ (s.port i).source ≠ .off) ∧
    ∃ mask : BitVec 6, (∀ i : InstrId, mask.getLsbD i = true ↔ i ∈ s.quietAsked n) ∧
      (let t := s.setSite n { s.site n with teardownPhase := some .quiet, outstanding := mask }
      quietPhase n s = if s.quietAsked n = [] then breakPhase n t else (s.quietAsked n).foldl (askSourceOff n) t)) ∧
  (∀ (i : InstrId) (s : State), takeSourceOff i s =
    match (s.port i).sourceOffFor with
    | none => s
    | some n => askSourceOff n (s.setPort i { s.port i with sourceOffFor := none }) i) ∧
  (∀ (n : SiteId) (i : InstrId) (s : State), (s.port i).state = .disabled ∨ (s.port i).state = .offline →
    askSourceOff n s i = s.setPort i { s.port i with quietReport := some (n, .notSent) }) ∧
  (∀ (n : SiteId) (i : InstrId) (s : State), (s.port i).state = .idle →
    askSourceOff n s i = s.setPort i { s.port i with
      state := .command, awaited := some .outputOff, user := some (.teardown n), seq := (s.port i).seq + 1
      outstanding := some ((s.port i).seq + 1), rxBytes := []
      respTimer := some ⟨s.time, (s.record i).responseTimeout.toNat * 1000⟩
      lastSent := messageBytes ⟨0x03, (s.port i).seq + 1, [0]⟩ }) ∧
  (∀ (n : SiteId) (i : InstrId) (s : State),
    (s.port i).state = .command ∨ (s.port i).state = .triggered ∨ (s.port i).state = .fetching →
    askSourceOff n s i = s.setPort i { s.port i with sourceOffFor := some n }) ∧
  (∀ (n : SiteId) (i : InstrId) (o : QuietOutcome) (s : State), (s.port i).quietReport = some (n, o) →
    (s.site n).state = .teardown → (s.site n).teardownPhase = some .quiet →
    exec (.quietOutcome i) s = .next (settle
      (let left := (s.site n).outstanding &&& ~~~(1#6 <<< i.val)
      let t := (s.setPort i { s.port i with quietReport := none }).setSite n { s.site n with
        outstanding := left, hot := if o = .acked then (s.site n).hot else true }
      if left = 0 then breakPhase n t else t))) ∧
  (∀ (n : SiteId) (i : InstrId) (o : QuietOutcome) (s : State), (s.port i).quietReport = some (n, o) → s.agenda = [] →
    (s.site n).state ≠ .teardown ∨ (s.site n).teardownPhase ≠ some .quiet →
    exec (.quietOutcome i) s = .next (s.setPort i { s.port i with quietReport := none })) ∧
  (∀ (i : InstrId) (s : State), (s.port i).quietReport = none → exec (.quietOutcome i) s = .next s)

/-! ### Variables and flags -/

/-! ### Leases -/

/-- ACQUIRE: done when the site holds the instrument, ORDER when it holds a higher one, taken when it is free, queued behind
its holder otherwise. A handover makes the head of the queue the holder, and its grant completes the waiting step (that the
event of the grant is derived from the leases is the model's choice, log entry 12). RELEASE of an instrument that the site
does not hold is done at once; without a route on its buses the instrument is handed over; with one, the guard is asked (HOT)
and the routes break first. -/
def Obligations.LeasesAreTakenGrantedAndReleased : Prop :=
  ((∀ (n : SiteId) (i : InstrId) (s : State), acquireStep n i s =
     if (s.lease i).holder = some n then finishStep n false none s
     else if ∃ j : InstrId, i < j ∧ (s.lease j).holder = some n then stepError n .order s
     else if (s.lease i).holder = none then
       finishStep n false none (s.setLease i { s.lease i with holder := some n })
     else (s.setLease i { s.lease i with queue := (s.lease i).queue ++ [n] }).setSite n { s.site n with
       phase := .wait .lease }) ∧
   (∀ (i : InstrId) (s : State), handover i s = s.setLease i
     (match (s.lease i).queue with
      | [] => ⟨none, []⟩
      | head :: rest => ⟨some head, rest⟩)) ∧
   (∀ (n : SiteId) (i : InstrId) (r : StepRecord) (s : State), (s.site n).phase = .wait .lease →
     (s.site n).taking = some r → r.kind = .acquire i → (s.lease i).holder = some n →
     exec (.grantEvent n i) s = .next (settle (finishStep n false none (s.setSite n { s.site n with phase := .step })))) ∧
   (∀ (n : SiteId) (i : InstrId) (s : State), (s.site n).phase ≠ .wait .lease ∨ (s.lease i).holder ≠ some n →
     exec (.grantEvent n i) s = .next s)) ∧
  (∀ (n : SiteId) (i : InstrId) (s : State),
     ((s.lease i).holder ≠ some n → releaseStep n i s = finishStep n false none s) ∧
     ((s.lease i).holder = some n → s.entriesOn n i = [] →
       releaseStep n i s = finishStep n false none (handover i s)) ∧
     ((s.lease i).holder = some n → (∃ e ∈ s.entriesOn n i, ∃ r, s.route e = some r ∧ r.state ≠ .breaking) →
       (s.port i).source ≠ .off → releaseStep n i s = stepError n .hot s) ∧
     ((s.lease i).holder = some n → s.entriesOn n i ≠ [] → (s.port i).source = .off →
       releaseStep n i s =
         let t := breakEntries ((s.entriesOn n i).filter fun e => (s.route e).any fun r => r.state != .breaking) s
         t.setSite n { t.site n with phase := .wait .release }))

/-! ### Tables -/

/-- STEPS_LOAD checks and writes step records; a record that `readStepRecord` does not read is refused. STEPS_READ replies
consecutive slots, each the 20 bytes of its record or 20 zeros for an empty one; a count of 0, slots beyond 2,047 and more
than 51 records are refused (the size of an empty mark, and so the 51, are deduced: log entry 17). ROUTEDEF_LOAD and
LIMITS_LOAD check and write their records; a record out of range is refused whole, a node count of 0 and a set of kind NONE
make their index undefined. A clear flag above 1 is refused (log entry 9). -/
def Obligations.TablesAreLoadedAndRead : Prop :=
  (LoadChecks Instr.stepsLoad 0x08 65536 2048 le16 (fun r => (r.map stepRecordBytes).getD []) (fun r => r.any StepRecord.inRange)
     State.steps (fun s t => { s with steps := t }) ∧
   ∀ (tag f0 f1 clear : Byte) (records : List Byte), records.length % 20 = 0 → 1 < clear.toNat ∨
       (∃ k < records.length / 20, readStepRecord ((records.drop (20 * k)).take 20) = none) →
     Refuses (.stepsLoad tag (f0 :: f1 :: clear :: records)) ⟨0x08, tag, f0 :: f1 :: clear :: records⟩
       (fun s => s.anyBusySite = false) 0x03) ∧
  ((∀ tag f0 f1 count : Byte, count ≠ 0 → read16 f0 f1 + count.toNat ≤ 2048 → count.toNat ≤ 51 →
     Answers (.stepsRead tag [f0, f1, count]) ⟨0x09, tag, [f0, f1, count]⟩ (fun _ => True) fun s =>
       send ⟨0x49, tag, 0x00 :: ((List.range' (read16 f0 f1) count.toNat).flatMap fun k =>
         match s.steps.get k with
         | some r => stepRecordBytes r
         | none => List.replicate 20 0)⟩ s) ∧
   (∀ tag f0 f1 count : Byte, count = 0 ∨ 2048 < read16 f0 f1 + count.toNat ∨ 51 < count.toNat →
     Refuses (.stepsRead tag [f0, f1, count]) ⟨0x09, tag, [f0, f1, count]⟩ (fun _ => True) 0x03)) ∧
  (LoadChecks Instr.routedefLoad 0x0A 256 256 u8 routeDefBytes (fun r => r.all RouteDef.inRange)
     State.routeDefs (fun s t => { s with routeDefs := t }) ∧
   LoadChecks Instr.limitsLoad 0x0B 256 256 u8 limitSetBytes (fun r => r.all LimitSet.inRange)
     State.limits (fun s t => { s with limits := t }) ∧
   (∀ (tag first clear : Byte) (records : List Byte), records.length % 21 = 0 → 1 < clear.toNat ∨
       (∃ k < records.length / 21, readRouteDef ((records.drop (21 * k)).take 21) = none) →
     Refuses (.routedefLoad tag (first :: clear :: records)) ⟨0x0A, tag, first :: clear :: records⟩
       (fun s => s.anyBusySite = false) 0x03) ∧
   (∀ (tag first clear : Byte) (records : List Byte), records.length % 18 = 0 → 1 < clear.toNat ∨
       (∃ k < records.length / 18, readLimitSet ((records.drop (18 * k)).take 18) = none) →
     Refuses (.limitsLoad tag (first :: clear :: records)) ⟨0x0B, tag, first :: clear :: records⟩
       (fun s => s.anyBusySite = false) 0x03))

/-- CAL_SET replaces one entry whole (an invalid one keeps only the unit code), CAL_READ replies the eight entries of an
instrument; both are accepted in every state and refuse indices out of range, CAL_SET also a gain of 0 and a valid flag
above 1 (log entry 9). -/
def Obligations.CalibrationIsSetAndRead : Prop :=
  (∀ (tag o0 o1 o2 g0 g1 g2 unit valid : Byte) (i : InstrId) (r : Fin 8), read24 g0 g1 g2 ≠ 0 → valid.toNat ≤ 1 →
    let body := [BitVec.ofNat 8 i, BitVec.ofNat 8 r, o0, o1, o2, g0, g1, g2, unit, valid]
    Answers (.calSet tag body) ⟨0x0C, tag, body⟩ (fun _ => True) fun s =>
      send ⟨0x4C, tag, [0x00]⟩ { s with cal := s.cal.set i (s.cal[i].set r
        (if valid = 1 then ⟨(o2 ++ o1 ++ o0 : BitVec 24).toInt, read24 g0 g1 g2, unit, true⟩
         else ⟨0, 4194304, unit, false⟩)) }) ∧
  (∀ tag inst range o0 o1 o2 g0 g1 g2 unit valid : Byte,
    5 < inst.toNat ∨ 7 < range.toNat ∨ read24 g0 g1 g2 = 0 ∨ 1 < valid.toNat →
    Refuses (.calSet tag [inst, range, o0, o1, o2, g0, g1, g2, unit, valid])
      ⟨0x0C, tag, [inst, range, o0, o1, o2, g0, g1, g2, unit, valid]⟩ (fun _ => True) 0x03) ∧
  (∀ (tag : Byte) (i : InstrId), Answers (.calRead tag [BitVec.ofNat 8 i]) ⟨0x0D, tag, [BitVec.ofNat 8 i]⟩ (fun _ => True)
    fun s => send ⟨0x4D, tag, 0x00 :: (s.cal[i].toList.flatMap fun e =>
      le24 (e.offset % 16777216).toNat ++ le24 e.gain ++ [e.unitCode, if e.valid then 1 else 0])⟩ s) ∧
  (∀ tag inst : Byte, 5 < inst.toNat → Refuses (.calRead tag [inst]) ⟨0x0D, tag, [inst]⟩ (fun _ => True) 0x03)

/-- INSTR_SET replaces an instrument record: its port is set going by HELLO when it is enabled, stopped with a PORT notice
when it is disabled, and keeps its state otherwise; the source state follows the source-capable field. It is refused while
the instrument has a holder (STATE), and for buses claimed twice or fields out of range (BAD_VALUE), enable and
source-capable bytes above 1 among them (log entry 9). That the PORT notice stands before the reply is the model's choice
(log entry 43). -/
def Obligations.InstrumentRecordsAreSet : Prop :=
  (∀ (tag : Byte) (i : InstrId) (r : InstrRecord), r.responseTimeout ≠ 0 → r.triggerWidth ≠ 0 →
    let body := BitVec.ofNat 8 i :: instrRecordBytes r
    let sound := fun s : State => r.buses.Nodup ∧ ∀ j : InstrId, j ≠ i → ∀ b ∈ r.buses, b ∉ (s.record j).buses
    let source := fun s : State =>
      if r.sourceCapable = false then SourceState.off
      else if (s.record i).sourceCapable then (s.port i).source else .unknown
    Answers (.instrSet tag body) ⟨0x0E, tag, body⟩
      (fun s => s.agenda = [] ∧ (s.lease i).holder = none ∧ sound s ∧
        (r.enable = true ↔ (s.port i).state ≠ .disabled)) (fun s =>
        send ⟨0x4E, tag, [0x00]⟩
          ({ s with records := s.records.set i r }.setPort i { s.port i with source := source s })) ∧
    Answers (.instrSet tag body) ⟨0x0E, tag, body⟩
      (fun s => s.agenda = [] ∧ (s.lease i).holder = none ∧ sound s ∧ r.enable = true ∧ (s.port i).state = .disabled)
      (fun s => send ⟨0x4E, tag, [0x00]⟩
        ({ s with records := s.records.set i r }.setPort i { s.port i with
          source := source s, state := .command, awaited := some .hello, user := some .bringUp
          seq := (s.port i).seq + 1, outstanding := some ((s.port i).seq + 1), rxBytes := []
          respTimer := some ⟨s.time, r.responseTimeout.toNat * 1000⟩
          lastSent := messageBytes ⟨0x01, (s.port i).seq + 1, []⟩ })) ∧
    Answers (.instrSet tag body) ⟨0x0E, tag, body⟩
      (fun s => (s.lease i).holder = none ∧ sound s ∧ r.enable = false ∧
        (s.port i).state ≠ .disabled)
      (fun s =>
        let t := portNotice i .disabled ({ s with records := s.records.set i r }.setPort i { s.port i with
          source := source s, state := .disabled, awaited := none, user := none, outstanding := none, respTimer := none
          probeTimer := none, spacing := none, sentConfig := none, rxBytes := [] })
        settle (send ⟨0x4E, tag, [0x00]⟩ (if (s.port i).state = .command then portFreed i t else t))) ∧
    Refuses (.instrSet tag body) ⟨0x0E, tag, body⟩ (fun s => s.agenda = [] ∧ (s.lease i).holder ≠ none) 0x04 ∧
    Refuses (.instrSet tag body) ⟨0x0E, tag, body⟩ (fun s => s.agenda = [] ∧ (s.lease i).holder = none ∧ ¬ sound s) 0x03) ∧
  (∀ (tag inst : Byte) (fields : List Byte), fields.length = 10 → 5 < inst.toNat ∨ readInstrRecord fields = none →
    Refuses (.instrSet tag (inst :: fields)) ⟨0x0E, tag, inst :: fields⟩ (fun s => s.agenda = []) 0x03)

/-- CARD_SET replaces a position's times and threshold (CARD form) or the refresh interval, restarting or stopping its timer
(CHAIN form). A form byte above 1, a body of the other form's length and a position above 15 are refused. CARD_RESET returns
a present card to ACTIVE, sets its relearn mark and the pass-due mark, and begins a pass when the controller is idle; in
discovery it is BUSY, for an ABSENT position STATE. -/
def Obligations.CardsAreSetAndReset : Prop :=
  ((∀ (tag operate release w0 w1 w2 : Byte) (k : CardId),
     let body := [0, BitVec.ofNat 8 k, operate, release, w0, w1, w2]
     Answers (.cardSetCard tag body) ⟨0x10, tag, body⟩ (fun _ => True) fun s =>
       send ⟨0x50, tag, [0x00]⟩ { s with chain := { s.chain with cards := s.chain.cards.set k { s.card k with
         operate := operate, release := release, threshold := w2 ++ w1 ++ w0 } } }) ∧
   (∀ tag interval : Byte,
     Answers (.cardSetChain tag [1, interval]) ⟨0x10, tag, [1, interval]⟩ (fun _ => True) fun s =>
       send ⟨0x50, tag, [0x00]⟩ { s with chain := { s.chain with
         interval := interval
         refresh := if interval = 0 then none else some ⟨s.time, interval.toNat * 1000⟩
         passDue := if interval = 0 then false else s.chain.passDue } }) ∧
   (∀ (tag form position operate release w0 w1 w2 : Byte), form ≠ 0 ∨ 15 < position.toNat →
     let body := [form, position, operate, release, w0, w1, w2]
     Refuses (cardSetRow tag body) ⟨0x10, tag, body⟩ (fun _ => True) 0x03) ∧
   (∀ tag form interval : Byte, form ≠ 1 →
     Refuses (cardSetRow tag [form, interval]) ⟨0x10, tag, [form, interval]⟩ (fun _ => True) 0x03)) ∧
  ((∀ (tag : Byte) (k : CardId),
     let c := Instr.cardReset tag [BitVec.ofNat 8 k]
     let f : Frame := ⟨0x11, tag, [BitVec.ofNat 8 k]⟩
     Answers c f (fun s => s.chain.phase ≠ .discovery ∧ (s.card k).state ≠ .absent) (fun s =>
       let t : State := { s with chain := { s.chain with
         passDue := true, cards := s.chain.cards.set k { s.card k with state := .active, relearn := true } } }
       send ⟨0x51, tag, [0x00]⟩ (if s.chain.phase = .idle then beginPass t else t)) ∧
     Refuses c f (fun s => s.chain.phase = .discovery) 0x05 ∧
     Refuses c f (fun s => s.chain.phase ≠ .discovery ∧ (s.card k).state = .absent) 0x04) ∧
   (∀ tag position : Byte, 15 < position.toNat →
     Refuses (.cardReset tag [position]) ⟨0x11, tag, [position]⟩ (fun _ => True) 0x03))

/-- WEAR_READ replies the counts of a position's crosspoints, bus by bus and node by node, and changes nothing; a position, a
bus count or a bus range outside its values is refused. -/
def Obligations.WearIsRead : Prop :=
  (∀ (tag first count : Byte) (k : CardId), 1 ≤ count.toNat → count.toNat ≤ 8 → first.toNat + count.toNat ≤ 16 →
    let body := [BitVec.ofNat 8 k, first, count]
    Answers (.wearRead tag body) ⟨0x12, tag, body⟩ (fun _ => True) fun s =>
      send ⟨0x52, tag, 0x00 :: ((List.range' (32 * first.toNat) (32 * count.toNat)).flatMap fun p =>
        le24 (s.wearCount k p))⟩ s) ∧
  (∀ tag position first count : Byte,
    15 < position.toNat ∨ count = 0 ∨ 8 < count.toNat ∨ 16 < first.toNat + count.toNat →
    Refuses (.wearRead tag [position, first, count]) ⟨0x12, tag, [position, first, count]⟩ (fun _ => True) 0x03)

/-- WEAR_LOAD replaces the counts named and leaves every other count and all else as it is; its checks are those of
WEAR_READ. A body that carries a whole number of buses other than the number it names is refused (the model's choice, log
entry 11). At the completion of a pass every closing noted at its latch adds one to the wear of its crosspoint, up to
16,777,215, and no other count changes; the closings are taken in order of card, bus and node, and a count that reaches its
card's threshold, other than 0, hands over a WEAR notice. -/
def Obligations.WearIsLoadedAndCounted : Prop :=
  ((∀ (tag first count : Byte) (k : CardId) (counts : List (BitVec 24)) (s : State),
     1 ≤ count.toNat → count.toNat ≤ 8 → first.toNat + count.toNat ≤ 16 → counts.length = 32 * count.toNat →
     let body := [BitVec.ofNat 8 k, first, count] ++ counts.flatMap fun c => le24 c.toNat
     Takes ⟨0x13, tag, body⟩ s → ∃ w : Table Nat,
       let t : State := { taken ⟨0x13, tag, body⟩ s with wear := w }
       exec (.wearLoad tag body) s = .next (send ⟨0x53, tag, [0x00]⟩ t) ∧
       ∀ (j : CardId) (p : Nat), p < 512 → t.wearCount j p =
         if j = k ∧ 32 * first.toNat ≤ p ∧ p < 32 * (first.toNat + count.toNat) then
           (counts.getD (p - 32 * first.toNat) 0).toNat
         else s.wearCount j p) ∧
   (∀ (tag position first count : Byte) (counts : List Byte), 1 ≤ counts.length → counts.length ≤ 768 →
     counts.length % 96 = 0 →
     15 < position.toNat ∨ count = 0 ∨ 8 < count.toNat ∨ 16 < first.toNat + count.toNat ∨
       counts.length ≠ 96 * count.toNat →
     Refuses (.wearLoad tag (position :: first :: count :: counts)) ⟨0x13, tag, position :: first :: count :: counts⟩
       (fun _ => True) 0x03)) ∧
  (∀ (s : State) (k : CardId) (p : Nat), p < 512 → (countNoted s).wearCount k p =
     if (s.chain.noted[k]).getLsbD p = true ∧ s.wearCount k p < 16777215 then s.wearCount k p + 1 else s.wearCount k p) ∧
  (∀ s : State, countNoted s = allCards.foldl
     (fun t k => ((List.range 512).filter fun p => (s.chain.noted[k]).getLsbD p).foldl (countWear k) t) s) ∧
  (∀ (k : CardId) (p : Nat) (s : State), p < 512 →
     (16777215 ≤ s.wearCount k p → countWear k s p = s) ∧
     (s.wearCount k p < 16777215 → ∃ w : Table Nat,
       let t : State := { s with wear := w }
       (∀ (j : CardId) (q : Nat), q < 512 →
         t.wearCount j q = if j = k ∧ q = p then s.wearCount k p + 1 else s.wearCount j q) ∧
       countWear k s p =
         if (s.card k).threshold ≠ 0 ∧ s.wearCount k p + 1 = (s.card k).threshold.toNat then
           notice 0x88 ([BitVec.ofNat 8 k, BitVec.ofNat 8 (p / 32)] ++ le16 (32 * k.val + p % 32) ++
             le24 (s.wearCount k p + 1) ++ le32 s.time.toNat) t
         else t))

/-- FETCH removes and replies the oldest records, up to the number asked, then examines the space list; an empty queue
replies 0 records, and a number outside 1–16 is refused. Every record has the length of its kind. The space list is examined
from its head: a post is admitted while the free count is above the number of sites in a run, and the examination stops at
the first that is not. A post with others waiting, or without the room, waits at the tail. A post that is admitted completes
its measurement, and RESULTS_READY follows it when no record was posted before. -/
def Obligations.ResultsArePostedAndFetched : Prop :=
  ((∀ tag n : Byte, 1 ≤ n.toNat → n.toNat ≤ 16 →
     Answers (.fetch tag [n]) ⟨0x24, tag, [n]⟩ (fun s => s.agenda = [] ∧ (s.queue.posted = [] ∨ s.queue.space = []))
       fun s => send ⟨0x64, tag, [0x00, BitVec.ofNat 8 (min n.toNat s.queue.posted.length)] ++
         (s.queue.posted.take n.toNat).flatMap recordBytes⟩
         { s with queue := { s.queue with posted := s.queue.posted.drop n.toNat } }) ∧
   (∀ tag n : Byte, 1 ≤ n.toNat → n.toNat ≤ 16 →
     Answers (.fetch tag [n]) ⟨0x24, tag, [n]⟩ (fun s => s.queue.posted ≠ [] ∧ s.queue.space ≠ [])
       fun s => settle (examineSpace (send ⟨0x64, tag, [0x00, BitVec.ofNat 8 (min n.toNat s.queue.posted.length)] ++
         (s.queue.posted.take n.toNat).flatMap recordBytes⟩
         { s with queue := { s.queue with posted := s.queue.posted.drop n.toNat } }))) ∧
   (∀ tag n : Byte, n = 0 ∨ 16 < n.toNat → Refuses (.fetch tag [n]) ⟨0x24, tag, [n]⟩ (fun s => s.agenda = []) 0x03) ∧
   (∀ r : SampleRecord, (recordBytes (.sample r)).length = 31) ∧ (∀ r : RunEndRecord, (recordBytes (.runEnd r)).length = 43)) ∧
  (((∀ s : State, examineSpace s = examineList s.queue.space s) ∧ (∀ s : State, examineList [] s = s) ∧
    ∀ (n : SiteId) (rest : List SiteId) (s : State), examineList (n :: rest) s =
      if s.runCount < 1024 - s.queue.posted.length then
        examineList rest (admitPost n { s with queue := { s.queue with space := rest } })
      else s) ∧
   (∀ (n : SiteId) (rest : List SiteId) (s : State), s.queue.space = n :: rest →
     examineSpace s =
       if s.runCount < 1024 - s.queue.posted.length then
         examineList rest (admitPost n { s with queue := { s.queue with space := rest } })
       else s) ∧
   (∀ (n : SiteId) (s : State), takePost n s =
     if s.queue.space = [] ∧ s.runCount < 1024 - s.queue.posted.length then admitPost n s
     else { s with queue := { s.queue with space := s.queue.space ++ [n] } }.setSite n { s.site n with
       phase := .wait .space }) ∧
   (∀ (n : SiteId) (r : StepRecord) (x : Sampling) (j : Judged) (s : State), (s.site n).taking = some r →
     (s.site n).meas.result = some j → r.sampling = some x →
     ∃ q : SampleRecord, (admitPost n s).queue.posted = s.queue.posted ++ [.sample q] ∧
       (admitPost n s).queue.seq = s.queue.seq + 1 ∧
       (let t := completeMeasurement n j
         { s with queue := { s.queue with posted := s.queue.posted ++ [.sample q], seq := s.queue.seq + 1 } }
       admitPost n s =
         if s.queue.posted = [] then
           notice 0x80 (le32 s.queue.seq.toNat ++ [if q.zero then 0x02 else 0x01, BitVec.ofNat 8 n] ++
             le32 s.time.toNat) t
         else t) ∧ q =
         { zero := r.kind.isZero, seq := s.queue.seq, site := n
           runNumber := if (s.site n).state = .run then (s.site n).runNumber else 0
           step := (s.site n).current, tag := r.tag, inst := x.inst, range := x.range
           unitCode := (s.site n).meas.unitCode, result := j, taken := (s.site n).meas.taken
           firstTrigger := (s.site n).meas.firstTrigger, conversion := (s.site n).meas.lastConversion }))

/-! ### The relay chain -/

/-- Discovery: a position that does not answer is ABSENT; one that answers with no bit set is ACTIVE, with a bit set FAULT
with the cause READBACK; the ID is the one returned, the latched record empty and the relearn mark clear. The controller is
then idle, and begins the pass that is owed. A pass begins: the pass number
increases, the commanded image becomes the snapshot, both marks are cleared, the ACTIVE cards are the verify set, and the
write frames follow (with no card present there are none). The refresh timer sets the pass-due mark, reloads from the reading
of its expiry (the model's choice, log entry 29) and lets an idle controller begin a pass; it runs only under an interval
other than 0. An expiry that is not reached yet changes nothing, and time passes to one that is (log entry 2); outside
DISCOVERY, and without a refresh timer, the event changes nothing (log entry 27). -/
def Obligations.DiscoveryAndRefreshBeginPasses : Prop :=
  ((∀ (answers : Vector (Option CardAnswer) 16) (s : State), s.chain.phase = .discovery → ∃ t,
     exec (.discoveryEnd answers) s = .next t ∧ ∀ k : CardId, t.card k =
       match answers[k] with
       | none => { s.card k with state := .absent, id := none, latched := 0, relearn := false }
       | some a =>
         if a.bits = 0 then { s.card k with state := .active, id := some a.id, latched := 0, relearn := false }
         else { s.card k with
           state := .fault, id := some a.id, latched := 0, relearn := false
           faultCount := if (s.card k).faultCount = 255 then 255 else (s.card k).faultCount + 1
           firstCause := some ((s.card k).firstCause.getD .readback) }) ∧
   (∀ (answers : Vector (Option CardAnswer) 16) (s : State), s.chain.phase = .discovery → s.agenda = [] →
     (∀ (k : CardId) (a : CardAnswer), answers[k] = some a → a.bits = 0) →
     exec (.discoveryEnd answers) s = .next
       (let t : State := { s with chain := { s.chain with
         cards := Vector.ofFn fun k => { s.card k with
           state := if (answers[k]).isSome then .active else .absent, id := (answers[k]).map CardAnswer.id, latched := 0
           relearn := false }
         phase := .idle, lastWrite := some (15, 0) } }
       if s.chain.dirty ∨ s.chain.passDue then beginPass t else t)) ∧
   (∀ (answers : Vector (Option CardAnswer) 16) (s : State), s.chain.phase ≠ .discovery →
     exec (.discoveryEnd answers) s = .next s)) ∧
  (∀ s : State, ∃ v : BitVec 16,
     beginPass s = { s with chain := { s.chain with
       passNumber := s.chain.passNumber + 1, snapshot := s.image, dirty := false, passDue := false, verifySet := v
       cursor := 0, noted := .allOpen, phase := if ∃ k, (s.card k).state ≠ .absent then .shift else .latch } } ∧
     ∀ k : CardId, v.getLsbD k = true ↔ (s.card k).state = .active) ∧
  ((∀ (t : Timer) (s : State), s.chain.refresh = some t → s.chain.interval ≠ 0 → s.reaches t = false →
     exec .refreshExpiry s = .next s) ∧
   (∀ (t : Timer) (s : State), s.chain.refresh = some t → s.chain.interval ≠ 0 → s.reaches t = true →
     exec .refreshExpiry s = .next
       (let u := s.passTo t
       let v : State := { u with chain := { u.chain with
         passDue := true, refresh := some ⟨u.time, u.chain.interval.toNat * 1000⟩ } }
       if s.chain.phase = .idle then beginPass v else v)) ∧
   (∀ s : State, s.chain.refresh = none ∨ s.chain.interval = 0 → exec .refreshExpiry s = .next s))

/-- A pass writes the snapshot to the present positions in increasing order, then latches: every present card's latched
record becomes its part of the snapshot, and the crosspoints that this closes are noted. That an event outside its phase
changes nothing is the model's choice (log entry 27). The completion of a pass: the closings noted are counted, the route
manager takes the completion, timers of length 0 expire at once, then the controller is idle and begins the pass that is
owed. That these expire in order of their entries, after every entry has been examined and before the next pass begins, is
the model's choice (log entry 28). -/
def Obligations.PassWritesAndLatches : Prop :=
  (∀ (k : CardId) (s : State), s.chain.phase = .shift → s.chain.cursor ≤ k → (s.card k).state ≠ .absent →
    (∀ j : CardId, s.chain.cursor ≤ j → j < k → (s.card j).state = .absent) →
    exec .writeFrameSent s = .next { s with chain := { s.chain with
      lastWrite := some (k, s.chain.snapshot[k]), cursor := k + 1
      phase := if ∃ j : CardId, k < j ∧ (s.card j).state ≠ .absent then .shift else .latch } }) ∧
  (∀ s : State, s.chain.phase = .latch →
    let t : State := { s with chain := { s.chain with
      cards := Vector.ofFn fun k =>
        if (s.card k).state = .absent then s.card k else { s.card k with latched := s.chain.snapshot[k] }
      noted := Vector.ofFn fun k =>
        if (s.card k).state = .absent then 0 else s.chain.snapshot[k] &&& ~~~(s.card k).latched
      cursor := 0, phase := .verify } }
    exec .latch s = .next (if ∃ k, (s.card k).state ≠ .absent then t else settle (completePass t))) ∧
  (∀ s : State, s.chain.phase ≠ .shift → exec .writeFrameSent s = .next s) ∧
  (∀ s : State, s.chain.phase ≠ .latch → exec .latch s = .next s) ∧
  (∀ s : State,
    let t := allEntries.foldl expireAtOnce (routesPassCompletion (countNoted s))
    let u : State := { t with chain := { t.chain with phase := .idle, noted := .allOpen } }
    completePass s = if t.chain.dirty = true ∨ t.chain.passDue = true then beginPass u else u) ∧
  (∀ (e : EntryId) (s : State),
    (∀ r, s.route e = some r → r.timer = some ⟨s.time, 0⟩ →
      (r.state = .making → expireAtOnce s e = tellMade e r.site
        { s with routes := s.routes.put e { r with state := .made, timer := none, madeAt := some s.time } }) ∧
      (r.state = .breaking → expireAtOnce s e = listEmptied (tellGone r
        { s with routes := s.routes.erase e, nodes := r.nodes.foldl Table.erase s.nodes }))) ∧
    ((∀ r, s.route e = some r → r.timer ≠ some ⟨s.time, 0⟩ ∨ (r.state ≠ .making ∧ r.state ≠ .breaking)) →
      expireAtOnce s e = s))

/-- VERIFY judges the next present position, if the verify set holds it: no answer is a fault LOST, an ID other than the
card's is LOST unless the relearn mark is set, an answer other than the latched record is READBACK; an answer that agrees
clears the relearn mark and sets the ID. After the last present position the pass completes. A card fault: the card is in
FAULT, its count increases and its first cause is kept; its routes in MAKING and MADE are FAULTED; then the sites of such
routes hear ROUTE_FAULT, one with a step in progress as a step error, others are left alone; the CARD notice follows. The
order in which several sites hear it, that of their numbers, is the model's choice (log entry 41), the notice's cause byte a
free value (log entry 4), its all-ones bytes log entry 8. That the event changes nothing outside VERIFY is log entry 27. -/
def Obligations.VerifyJudgesCards : Prop :=
  ((∀ (k : CardId) (answer : Option CardAnswer) (s : State), s.chain.phase = .verify → s.chain.cursor ≤ k →
     (s.card k).state ≠ .absent → (∀ j : CardId, s.chain.cursor ≤ j → j < k → (s.card j).state = .absent) →
     exec (.readFrameAnswer answer) s = .next (settle
       (let t : State := { s with chain := { s.chain with cursor := k + 1 } }
       let pass := s.chain.passNumber.toNat
       let learned := fun a : CardAnswer =>
         { t with chain := { t.chain with cards := s.chain.cards.set k { s.card k with id := some a.id, relearn := false } } }
       let u :=
         if s.chain.verifySet.getLsbD k = false then t
         else
           match answer with
           | none => cardFault k .lost (s.card k).id none [] pass t
           | some a =>
             if (s.card k).relearn = false ∧ (s.card k).id ≠ some a.id then
               cardFault k .lost (s.card k).id (some a.id) [] pass t
             else if a.bits = (s.card k).latched then learned a
             else cardFault k .readback (s.card k).id (some a.id) (setPlaces (a.bits ^^^ (s.card k).latched)) pass (learned a)
       if ∃ j : CardId, k < j ∧ (u.card j).state ≠ .absent then u else completePass u))) ∧
   (∀ (answer : Option CardAnswer) (s : State), s.chain.phase ≠ .verify → exec (.readFrameAnswer answer) s = .next s)) ∧
  ((∀ (k : CardId) (cause : CardCause) (id returned : Option Byte) (differ : List Nat) (pass : Nat) (s : State),
     (∀ n, (s.site n).phase = .noStep) →
     let t := cardFault k cause id returned differ pass s
     t.card k = { s.card k with
       state := .fault, faultCount := if (s.card k).faultCount = 255 then 255 else (s.card k).faultCount + 1
       firstCause := some ((s.card k).firstCause.getD cause) } ∧
     (∀ j, j ≠ k → t.card j = s.card j) ∧
     (∀ e, t.route e = (s.route e).map fun r =>
       if (r.state = .making ∨ r.state = .made) ∧ ∃ p ∈ r.nodes, p / 32 % 16 = k.val then
         { r with state := .faulted, pendingPass := false, timer := none }
       else r) ∧
     t.image = s.image ∧ t.nodes = s.nodes ∧ t.sites = s.sites ∧ t.leases = s.leases ∧ t.ports = s.ports ∧
     t.queue = s.queue ∧ t.wear = s.wear) ∧
   (∀ (k : CardId) (s : State), (s.sitesOnCard k).Pairwise (· < ·) ∧ ∀ n, n ∈ s.sitesOnCard k ↔
     ∃ e r, s.route e = some r ∧ r.site = n ∧ (r.state = .making ∨ r.state = .made) ∧ ∃ p ∈ r.nodes, p / 32 % 16 = k.val) ∧
   (∀ (k : CardId) (cause : CardCause) (id returned : Option Byte) (differ : List Nat) (pass : Nat) (s : State),
     ∃ routes : Table LiveRoute,
       let u : State := { s with
         chain := { s.chain with cards := s.chain.cards.set k { s.card k with
           state := .fault, faultCount := if (s.card k).faultCount = 255 then 255 else (s.card k).faultCount + 1
           firstCause := some ((s.card k).firstCause.getD cause) } }
         routes := routes }
       (∀ e, u.route e = (s.route e).map fun r =>
         if (r.state = .making ∨ r.state = .made) ∧ ∃ p ∈ r.nodes, p / 32 % 16 = k.val then
           { r with state := .faulted, pendingPass := false, timer := none }
         else r) ∧
       (let t := (s.sitesOnCard k).foldl deliverRouteFault u
       cardFault k cause id returned differ pass s = notice 0x86
         ([BitVec.ofNat 8 k, Config.code .cardCause (if cause = .readback then 0 else 1), id.getD 0xFF, returned.getD 0xFF] ++
           le16 differ.length ++
           (match differ with
             | [] => [0xFF, 0xFF, 0xFF]
             | d :: _ => [BitVec.ofNat 8 (d / 32)] ++ le16 (32 * k.val + d % 32)) ++
           [(t.card k).faultCount] ++ le32 pass ++ le32 t.time.toNat) t)) ∧
   (∀ (n : SiteId) (s : State), deliverRouteFault s n =
     if ((s.site n).state = .run ∨ (s.site n).state = .manual) ∧ (s.site n).phase ≠ .noStep then stepError n .routeFault s
     else s))

/-! ### Routes -/

/-- CONNECT, its checks in their order, and what it creates: an entry in MAKING with its nodes claimed, its crosspoints in
the commanded image and the dirty mark set; the site waits in SETTLE. Entries that break: each goes to BREAKING with its
crosspoints out of the commanded image, its nodes still claimed, waiting for a pass. DISCONNECT asks the guard first (HOT),
and is done at once without a route. -/
def Obligations.RoutesAreConnectedAndBroken : Prop :=
  (∀ (n : SiteId) (d : Byte) (s : State),
     (s.routeDefs.get d.toNat = none → connectStep n d s = stepError n .badStep s) ∧
     ∀ x : RouteDef, s.routeDefs.get d.toNat = some x →
       ((s.lease x.inst).holder ≠ some n → connectStep n d s = stepError n .noLease s) ∧
       ((s.lease x.inst).holder = some n →
         ((s.record x.inst).bus x.terminal = none → connectStep n d s = stepError n .badStep s) ∧
         ∀ bus : BusId, (s.record x.inst).bus x.terminal = some bus →
           ((∃ a ∈ x.nodes, (s.window n).size ≤ a) → connectStep n d s = stepError n .window s) ∧
           ((∀ a ∈ x.nodes, a < (s.window n).size) →
             let nodes := x.nodes.map ((s.window n).base + ·)
             let cardState := fun a : Nat => (s.card (cardOf a)).state
             ((∃ a ∈ nodes, cardState a = .absent) → connectStep n d s = stepError n .noCard s) ∧
             ((∀ a ∈ nodes, cardState a ≠ .absent) → (∃ a ∈ nodes, cardState a = .fault) →
               connectStep n d s = stepError n .routeFault s) ∧
             ((∀ a ∈ nodes, cardState a = .active) →
               ((s.port x.inst).source ≠ .off → connectStep n d s = stepError n .hot s) ∧
               ((s.port x.inst).source = .off → s.safe ≠ ⟨false, false, false⟩ →
                 connectStep n d s = stepError n .safe s) ∧
               (∀ e r, (s.port x.inst).source = .off → s.safe = ⟨false, false, false⟩ → s.entryFor n d = some e →
                 s.route e = some r →
                 (r.state = .making ∨ r.state = .made → connectStep n d s = finishStep n false none s) ∧
                 (r.state = .faulted → connectStep n d s = stepError n .routeFault s)) ∧
               ((s.port x.inst).source = .off → s.safe = ⟨false, false, false⟩ →
                 (∀ e r, s.entryFor n d = some e → s.route e = some r → r.state = .breaking) →
                 (s.freeEntry = none → connectStep n d s = stepError n .routesFull s) ∧
                 ∀ e : EntryId, s.freeEntry = some e →
                   ((∃ a ∈ nodes, ∃ y, s.nodeState a = some y ∧ y ≠ .breaking) →
                     connectStep n d s = stepError n .conflict s) ∧
                   ((∀ a ∈ nodes, s.nodeState a = none ∨ s.nodeState a = some .breaking) →
                     (∃ a ∈ nodes, s.nodeState a = some .breaking) →
                     connectStep n d s = s.setSite n { s.site n with phase := .wait .node, needNodes := nodes }) ∧
                   ((∀ a ∈ nodes, s.nodeState a = none) →
                     let r : LiveRoute :=
                       { site := n, definition := d, inst := x.inst, terminal := x.terminal, bus := bus, nodes := nodes
                         settle := x.settle, state := .making, pendingPass := true, timer := none, madeAt := none
                         zero := none }
                     let t : State := { s with
                       routes := s.routes.put e r
                       nodes := nodes.foldl (fun m a => m.put a ⟨bus, e⟩) s.nodes
                       image := s.image.union r.crosspoints
                       chain := { s.chain with dirty := true } }
                     let u := if s.chain.phase = .idle then beginPass t else t
                     connectStep n d s = u.setSite n { u.site n with
                       phase := .wait .settle, settleOn := some e, needNodes := [] })))))) ∧
  ((∀ (e : EntryId) (r : LiveRoute) (s : State), s.route e = some r → r.state ≠ .breaking →
     breakEntry s e = { s with
       routes := s.routes.put e { r with state := .breaking, pendingPass := true, timer := none }
       image := s.image.remove r.crosspoints
       chain := { s.chain with dirty := true } }) ∧
   (∀ (es : List EntryId) (s : State), breakEntries es s =
     if es = [] then s
     else
       let t := es.foldl breakEntry s
       if t.chain.phase = .idle ∧ (t.chain.dirty ∨ t.chain.passDue) then beginPass t else t) ∧
   (∀ (n : SiteId) (d : Byte) (s : State), s.routeFor n d = none → disconnectStep n d s = finishStep n false none s) ∧
   (∀ (n : SiteId) (d : Byte) (e : EntryId) (r : LiveRoute) (s : State), s.routeFor n d = some e → s.route e = some r →
     disconnectStep n d s =
       if (s.port r.inst).source = .off then
         finishStep n false none
           (let t := breakEntry s e
           if t.chain.phase = .idle ∧ (t.chain.dirty ∨ t.chain.passDue) then beginPass t else t)
       else stepError n .hot s) ∧
   (∀ (n : SiteId) (s : State), (∃ e r, s.route e = some r ∧ r.site = n ∧ r.state ≠ .breaking ∧ (s.port r.inst).source ≠ .off) →
     disconnectAllStep n s = stepError n .hot s) ∧
   (∀ (n : SiteId) (s : State),
     (∀ e r, s.route e = some r → r.site = n → r.state ≠ .breaking → (s.port r.inst).source = .off) →
     disconnectAllStep n s = finishStep n false none
       (breakEntries ((s.siteEntries n).filter fun e => (s.route e).any LiveRoute.live) s)))

/-- The completion of a pass starts the make timer of an entry whose crosspoints the pass had closed, and the release timer
of one whose crosspoints it had opened, each with the longest time of the cards it uses; no other entry changes. A make timer
that runs out makes its entry MADE, with the reading, and the site that waits for it goes on; a release timer that runs out
frees the nodes and the entry, and its site is told. The site that is told of an entry gone: a RELEASE that waits ends when
its last entry on the instrument is gone, and hands the instrument over; a CONNECT that waits for one of its nodes makes its
checks again; a teardown in BREAK goes on to RELEASE when the site's last entry is gone. The site that is told of an entry
MADE: a CONNECT that waits for it is done, a MEASURE or ZERO makes its checks again. An expiry that is not reached changes
nothing, and time passes to one that is (log entry 2); the fixture monitor hears of an empty list after the site (log entry
26); an event without its timer changes nothing (log entry 27). -/
def Obligations.RoutesAreTimed : Prop :=
  (∀ s : State,
     (∃ routes, routesPassCompletion s = { s with routes := routes }) ∧
     ∀ e : EntryId,
       let longest : List Nat → (Card → Byte) → Nat := fun nodes time =>
         nodes.foldl (fun m a => max m (time (s.card (cardOf a))).toNat) 0
       let closed : LiveRoute → Nat → Bool := fun r a => (s.chain.snapshot[cardOf a]).getLsbD (placeOf r.bus a)
       let completed : LiveRoute → LiveRoute := fun r =>
         if r.pendingPass = true ∧ r.state = .making ∧ (∀ a ∈ r.nodes, closed r a = true) then
           { r with pendingPass := false, timer := some ⟨s.time, longest r.nodes Card.operate * 100 + r.settle.toNat * 10⟩ }
         else if r.pendingPass = true ∧ r.state = .breaking ∧ (∀ a ∈ r.nodes, closed r a = false) then
           { r with pendingPass := false, timer := some ⟨s.time, longest r.nodes Card.release * 100⟩ }
         else r
       (routesPassCompletion s).route e = (s.route e).map completed) ∧
  ((∀ (e : EntryId) (r : LiveRoute) (t : Timer) (s : State), s.route e = some r → r.timer = some t → s.reaches t = false →
     exec (.makeTimerExpiry e) s = .next s ∧ exec (.releaseTimerExpiry e) s = .next s) ∧
   (∀ (e : EntryId) (r : LiveRoute) (t : Timer) (s : State), s.route e = some r → r.state = .making → r.timer = some t →
     s.reaches t = true → exec (.makeTimerExpiry e) s = .next (settle
       (let u := s.passTo t
       tellMade e r.site { u with routes := u.routes.put e { r with
         state := .made, timer := none, madeAt := some u.time } }))) ∧
   (∀ (e : EntryId) (r : LiveRoute) (t : Timer) (s : State), s.route e = some r → r.state = .breaking → r.timer = some t →
     s.reaches t = true → exec (.releaseTimerExpiry e) s = .next (settle
       (let u := s.passTo t
       listEmptied (tellGone r { u with
         routes := u.routes.erase e, nodes := r.nodes.foldl Table.erase u.nodes })))) ∧
   (∀ (e : EntryId) (s : State), (∀ r, s.route e = some r → r.state ≠ .making ∨ r.timer = none) →
     exec (.makeTimerExpiry e) s = .next s) ∧
   (∀ (e : EntryId) (s : State), (∀ r, s.route e = some r → r.state ≠ .breaking ∨ r.timer = none) →
     exec (.releaseTimerExpiry e) s = .next s) ∧
   (∀ (e : EntryId) (n : SiteId) (r : StepRecord) (d : Byte) (s : State), (s.site n).phase = .wait .settle →
     (s.site n).settleOn = some e → (s.site n).taking = some r → r.kind = .connect d →
     tellMade e n s = finishStep n false none s)) ∧
  ((∀ (e : EntryId) (n : SiteId) (r : StepRecord) (s : State), (s.site n).phase = .wait .settle →
     (s.site n).settleOn = some e → (s.site n).taking = some r →
     (∃ f, r.kind = .measure f) ∨ (∃ f, r.kind = .zero f) →
     tellMade e n s = samplingStep n r (s.setSite n { s.site n with phase := .step })) ∧
   (∀ (e : EntryId) (n : SiteId) (s : State), (s.site n).phase ≠ .wait .settle ∨ (s.site n).settleOn ≠ some e →
     tellMade e n s = s) ∧
   (∀ (r : LiveRoute) (x : StepRecord) (i : InstrId) (s : State), (s.site r.site).phase = .wait .release →
     (s.site r.site).taking = some x → x.kind = .release i →
     (i = r.inst → (∀ e y, s.route e = some y → ¬(y.site = r.site ∧ y.inst = i)) →
       tellGone r s = finishStep r.site false none
         (handover i (s.setSite r.site { s.site r.site with phase := .step }))) ∧
     (i ≠ r.inst ∨ (∃ e y, s.route e = some y ∧ y.site = r.site ∧ y.inst = i) → tellGone r s = s)) ∧
   (∀ (r : LiveRoute) (x : StepRecord) (d : Byte) (s : State), (s.site r.site).phase = .wait .node →
     (s.site r.site).taking = some x → x.kind = .connect d →
     tellGone r s =
       if ∃ p ∈ r.nodes, p ∈ (s.site r.site).needNodes then
         connectStep r.site d (s.setSite r.site { s.site r.site with phase := .step })
       else s) ∧
   (∀ (r : LiveRoute) (s : State), (s.site r.site).phase ≠ .wait .release → (s.site r.site).phase ≠ .wait .node →
     tellGone r s =
       if (s.site r.site).state = .teardown ∧ (s.site r.site).teardownPhase = some .breakRoutes ∧
         s.siteEntries r.site = [] then releasePhase r.site s
       else s))

/-! ### Instrument ports -/

/-- A sound message that is no accepted answer (a wrong sequence, kind or length, or no answer awaited) is discarded and
counted as STALE, and changes nothing else; a DISABLED port ignores every message. A message with a bad checksum counts
CHECKSUM; where an answer is awaited it counts as a failure too, and the third fails the exchange: CANCEL, the user's step
ends with OFFLINE, a teardown hears TIMED_OUT, an OUTPUT leaves the source state UNKNOWN. That a port has no user during its
CANCEL is deduced (log entry 21), and so is what a bad checksum does where the count already stands at 3 (log entry 34). -/
def Obligations.WrongMessagesAreCounted : Prop :=
  ((∀ (i : InstrId) (m : PortMessage) (s : State), m.body.length ≤ 255 → s.agenda = [] → (s.port i).state ≠ .disabled →
     (s.port i).rxBytes = [] →
     ¬ ((s.port i).outstanding = some m.seq ∧
       ((m.kind = 0x81 ∧ m.body.length = 0 ∧
           ((s.port i).awaited = some .config ∨ (s.port i).awaited = some .outputOn ∨ (s.port i).awaited = some .outputOff)) ∨
        (m.kind = 0x82 ∧ m.body.length = 1 ∧
           ((s.port i).awaited = some .config ∨ (s.port i).awaited = some .outputOn ∨ (s.port i).awaited = some .outputOff)) ∨
        (m.kind = 0x83 ∧ m.body.length = 4 ∧ (s.port i).awaited = some .read) ∨
        (m.kind = 0x84 ∧ m.body.length = 6 ∧ (s.port i).awaited = some .hello))) →
     let t := s.setPort i { s.port i with counters := (s.port i).counters.bump .stale }
     exec (.portUnknownKindMessage i m.kind m.seq m.body) s = .next t ∧
     (m.kind = 0x81 → exec (.portAck i m.seq m.body) s = .next t) ∧
     (m.kind = 0x82 → exec (.portNak i m.seq m.body) s = .next t) ∧
     (m.kind = 0x83 → exec (.portValue i m.seq m.body) s = .next t) ∧
     (m.kind = 0x84 → exec (.portIdent i m.seq m.body) s = .next t)) ∧
   (∀ (i : InstrId) (kind seq : Byte) (body : List Byte) (s : State), (s.port i).state = .disabled →
     exec (.portUnknownKindMessage i kind seq body) s = .next s ∧ exec (.portAck i seq body) s = .next s ∧
     exec (.portNak i seq body) s = .next s ∧ exec (.portValue i seq body) s = .next s ∧
     exec (.portIdent i seq body) s = .next s ∧ exec (.portBadChecksum i body) s = .next s)) ∧
  (∀ (i : InstrId) (m : PortMessage) (c : Byte) (s : State), m.body.length ≤ 255 → s.agenda = [] →
     (s.port i).state ≠ .disabled → (s.port i).rxBytes = [] → byteSum (messageCore m ++ [c]) ≠ 0 →
     0x5A ∉ messageCore m ++ [c] →
     exec (.portBadChecksum i ([0x5A] ++ messageCore m ++ [c])) s = .next
       (let p := { s.port i with counters := (s.port i).counters.bump .checksum }
       if ¬ ((p.state = .command ∧ p.awaited ≠ none ∧ p.awaited ≠ some .cancel) ∨ p.state = .fetching) then s.setPort i p
       else if p.failures + 1 < 3 then s.setPort i { p with failures := p.failures + 1 }
       else
         let t := s.setPort i { p with
           failures := 3, state := .command, awaited := some .cancel, user := none, outstanding := none, respTimer := none
           sentConfig := none, seq := p.seq + 1, rxBytes := [], lastSent := messageBytes ⟨0x05, p.seq + 1, []⟩
           cancelEnd := if p.user = some .bringUp then .noAnswer else .lost .checksum
           source := if p.awaited = some .outputOn ∨ p.awaited = some .outputOff then
               if (s.record i).sourceCapable then .unknown else .off
             else p.source }
         settle (match p.user with
           | some (.site n) => stepError n .offline t
           | some (.teardown n) => t.setPort i { t.port i with quietReport := some (n, .timedOut) }
           | _ => t)))

/-- An accepted ACK ends the exchange: the port is IDLE, a CONFIG's fields become the last configuration, an OUTPUT sets the
source state, and the user's step is done or its teardown hears ACKED. An accepted NAK ends the exchange too, keeps its
reason and counts: the user's step ends with NAK, a teardown hears NAKED, an OUTPUT leaves the source state UNKNOWN. -/
def Obligations.AckAndNakEndTheExchange : Prop :=
  (∀ (i : InstrId) (seq : Byte) (a : Awaited) (s : State), s.agenda = [] → (s.port i).state ≠ .disabled →
     (s.port i).rxBytes = [] → (s.port i).outstanding = some seq → (s.port i).awaited = some a →
     a = .config ∨ a = .outputOn ∨ a = .outputOff →
     exec (.portAck i seq []) s = .next (settle (portFreed i
       (let p := s.port i
       let t := s.setPort i { p with
         state := .idle, awaited := none, user := none, outstanding := none, respTimer := none, failures := 0
         sentConfig := none
         lastConfig := if a = .config then p.sentConfig else p.lastConfig
         source := if a = .outputOn then (if (s.record i).sourceCapable then .on else .off)
                   else if a = .outputOff then .off else p.source }
       match p.user with
       | some (.site n) => finishStep n false none t
       | some (.teardown n) => t.setPort i { t.port i with quietReport := some (n, .acked) }
       | _ => t)))) ∧
  (∀ (i : InstrId) (seq reason : Byte) (a : Awaited) (s : State), s.agenda = [] → (s.port i).state ≠ .disabled →
     (s.port i).rxBytes = [] → (s.port i).outstanding = some seq → (s.port i).awaited = some a →
     a = .config ∨ a = .outputOn ∨ a = .outputOff →
     exec (.portNak i seq [reason]) s = .next (settle (portFreed i
       (let p := s.port i
       let t := s.setPort i { p with
         state := .idle, awaited := none, user := none, outstanding := none, respTimer := none, failures := 0
         sentConfig := none, lastNak := some reason, counters := p.counters.bump .nak
         source := if a = .config then p.source else if (s.record i).sourceCapable then .unknown else .off }
       match p.user with
       | some (.site n) => stepError n .nak t
       | some (.teardown n) => t.setPort i { t.port i with quietReport := some (n, .naked) }
       | _ => t))))

/-- An accepted VALUE ends the trigger cycle and hands over its sample: the code, the status bits 0 and 1, the trigger
timestamp and the conversion time modulo 2^32. An accepted IDENT ends a bring-up (PORT notice ENABLED) or a probe (FOUND):
the port is IDLE with the identity given. That the PORT notice stands before what a freed port lets go on is the model's
choice (log entry 44). -/
def Obligations.ValueAndIdentAreTaken : Prop :=
  (∀ (i : InstrId) (seq c0 c1 c2 status : Byte) (n : SiteId) (s : State), s.agenda = [] → (s.port i).state ≠ .disabled →
     (s.port i).rxBytes = [] → (s.port i).outstanding = some seq → (s.port i).awaited = some .read →
     (s.port i).user = some (.site n) →
     exec (.portValue i seq [c0, c1, c2, status]) s = .next (settle
       (let p := s.port i
       takeSample n i (c2 ++ c1 ++ c0 : BitVec 24).toInt (status.getLsbD 0) (status.getLsbD 1) p.triggerStamp
         (p.readyStamp - p.triggerStamp)
         (s.setPort i { p with
           state := .idle, awaited := none, user := none, outstanding := none, respTimer := none, failures := 0
           sentConfig := none })))) ∧
  (∀ (i : InstrId) (seq type revision s0 s1 s2 s3 : Byte) (s : State), s.agenda = [] →
     (s.port i).state = .command ∨ (s.port i).state = .offline → (s.port i).rxBytes = [] →
     (s.port i).outstanding = some seq → (s.port i).awaited = some .hello →
     exec (.portIdent i seq [type, revision, s0, s1, s2, s3]) s = .next (settle
       (let p := s.port i
       let t := portNotice i (if p.state = .offline then .found else .enabled) (s.setPort i { p with
         state := .idle, awaited := none, user := none, outstanding := none, respTimer := none, failures := 0
         sentConfig := none, probeTimer := none, lastIdent := some ⟨type, revision, s3 ++ s2 ++ s1 ++ s0⟩ })
       if p.state = .command then portFreed i t else t)))

/-- A response timer that runs out in COMMAND awaiting an answer, in TRIGGERED or in FETCHING counts TIMEOUT and a failure
and sends CANCEL; the user's step ends with TIMEOUT, a teardown hears TIMED_OUT, an OUTPUT leaves the source state UNKNOWN.
When the last byte of a CANCEL has left, the port is IDLE, or OFFLINE with its probe timer and its PORT notice (LOST counts
LOST_LINK; that the notice stands before what the freed port lets go on is log entry 44); an OFFLINE port probes by HELLO
each time the probe timer runs out. An expiry that is not reached changes nothing, and time passes to one that is (log entry
2). That a port has no user during its CANCEL is log entry 21, a failure count held at 3 log entry 34, and an event that does
not fit the port's state changes nothing (log entry 27). -/
def Obligations.ExchangesFailCancelAndProbe : Prop :=
  ((∀ (i : InstrId) (r : Timer) (s : State), (s.port i).respTimer = some r → s.reaches r = false →
     exec (.responseTimeout i) s = .next s) ∧
   (∀ (i : InstrId) (r : Timer) (s : State), (s.port i).probeTimer = some r → s.reaches r = false →
     exec (.probeTimerExpiry i) s = .next s) ∧
   (∀ (i : InstrId) (r : Timer) (s : State), (s.port i).respTimer = some r → s.reaches r = true →
     ((s.port i).state = .command ∧ (s.port i).awaited ≠ none ∧ (s.port i).awaited ≠ some .cancel) ∨
       (s.port i).state = .triggered ∨ (s.port i).state = .fetching →
     exec (.responseTimeout i) s = .next (settle
       (let u := s.passTo r
       let p := s.port i
       let failures := min (p.failures + 1) 3
       let t := u.setPort i { p with
         counters := p.counters.bump .timeout, failures := failures, state := .command, awaited := some .cancel
         user := none, outstanding := none, respTimer := none, sentConfig := none, seq := p.seq + 1, rxBytes := []
         lastSent := messageBytes ⟨0x05, p.seq + 1, []⟩
         cancelEnd := if p.user = some .bringUp then .noAnswer else if failures = 3 then .lost .timeout else .idle
         source := if p.awaited = some .outputOn ∨ p.awaited = some .outputOff then
             if (s.record i).sourceCapable then .unknown else .off
           else p.source }
       match p.user with
       | some (.site n) => stepError n .timeout t
       | some (.teardown n) => t.setPort i { t.port i with quietReport := some (n, .timedOut) }
       | _ => t))) ∧
   (∀ (i : InstrId) (s : State), (s.port i).respTimer = none ∨ (s.port i).state = .disabled ∨ (s.port i).state = .offline ∨
     (s.port i).state = .idle ∨ (s.port i).awaited = some .cancel ∧ (s.port i).state = .command →
     exec (.responseTimeout i) s = .next s)) ∧
  ((∀ (i : InstrId) (s : State), (s.port i).state = .command → (s.port i).awaited = some .cancel →
     exec (.cancelSent i) s = .next (settle (portFreed i
       (let p := s.port i
       let off := fun counters => s.setPort i { p with
         state := .offline, awaited := none, user := none, outstanding := none, probeTimer := some ⟨s.time, 1000000⟩
         counters := counters }
       match p.cancelEnd with
       | .idle => s.setPort i { p with state := .idle, awaited := none }
       | .lost f => portNotice i (.lost f) (off (p.counters.bump .lostLink))
       | .noAnswer => portNotice i .noAnswer (off p.counters))))) ∧
   (∀ (i : InstrId) (t : Timer) (s : State), (s.port i).state = .offline → (s.port i).probeTimer = some t →
     s.reaches t = true → exec (.probeTimerExpiry i) s = .next
       (let u := s.passTo t
       u.setPort i { s.port i with
         seq := (s.port i).seq + 1, outstanding := some ((s.port i).seq + 1), awaited := some .hello, rxBytes := []
         probeTimer := some ⟨u.time, 1000000⟩, lastSent := messageBytes ⟨0x01, (s.port i).seq + 1, []⟩ })) ∧
   (∀ (i : InstrId) (s : State), (s.port i).state ≠ .command ∨ (s.port i).awaited ≠ some .cancel →
     exec (.cancelSent i) s = .next s) ∧
   (∀ (i : InstrId) (s : State), (s.port i).state ≠ .offline ∨ (s.port i).probeTimer = none →
     exec (.probeTimerExpiry i) s = .next s))

/-- RDY is filtered: a raw change restarts its stability time, and the level held for it becomes the filtered level (at once
under a filter of 0). In TRIGGERED a fall sets the mark, and a rise with the mark records the ready timestamp and sends READ.
A trigger drives TRIG for the record's width and starts the wait for RDY under the response timer; TRIG returns low when the
width has run, and the next trigger of a measurement is given when its spacing has run, from an IDLE port. An expiry that is
not reached changes nothing, and time passes to one that is (log entry 2). Within a pulse that still runs, TRIG stays high
until that pulse and the new one have both run their width (log entry 20), and an event that does not fit the port's state
changes nothing (log entry 27). -/
def Obligations.TriggersAndReadyAreTimed : Prop :=
  (∀ (i : InstrId) (s : State),
     let changed := fun (level : Bool) (u : State) =>
       let p := u.port i
       u.setPort i
         (if p.state = .triggered ∧ level = false then { p with filteredRdy := false, mark := true }
          else if p.state = .triggered ∧ p.mark = true then { p with
            filteredRdy := true, readyStamp := u.time, state := .fetching, awaited := some .read, seq := p.seq + 1
            outstanding := some (p.seq + 1), rxBytes := []
            respTimer := some ⟨u.time, (u.record i).responseTimeout.toNat * 1000⟩
            lastSent := messageBytes ⟨0x04, p.seq + 1, []⟩ }
          else { p with filteredRdy := level })
     (∀ level : Bool, level ≠ (s.port i).rawRdy →
       exec (.rdyRawChange i level) s = .next
         (let t := s.setPort i { s.port i with rawRdy := level, rdyChange := s.time }
         if (s.record i).rdyFilter = 0 ∧ level ≠ (s.port i).filteredRdy then changed level t else t)) ∧
     ((s.port i).rawRdy ≠ (s.port i).filteredRdy → s.reaches ⟨(s.port i).rdyChange, (s.record i).rdyFilter.toNat⟩ = false →
       exec (.rdyFilteredChange i) s = .next s) ∧
     ((s.port i).rawRdy ≠ (s.port i).filteredRdy → s.reaches ⟨(s.port i).rdyChange, (s.record i).rdyFilter.toNat⟩ = true →
       exec (.rdyFilteredChange i) s = .next
         (changed (s.port i).rawRdy (s.passTo ⟨(s.port i).rdyChange, (s.record i).rdyFilter.toNat⟩))) ∧
     exec (.rdyRawChange i (s.port i).rawRdy) s = .next s ∧
     ((s.port i).rawRdy = (s.port i).filteredRdy → exec (.rdyFilteredChange i) s = .next s)) ∧
  ((∀ (n : SiteId) (i : InstrId) (s : State), giveTrigger n i s = s.setPort i { s.port i with
     state := .triggered, awaited := none, user := some (.site n), outstanding := none, spacing := none
     respTimer := some ⟨s.time, (s.record i).responseTimeout.toNat * 1000⟩
     pulse := some (match (s.port i).pulse with
       | some t =>
         if (s.record i).triggerWidth.toNat + (s.time - t.start).toNat < t.duration then t
         else ⟨s.time, (s.record i).triggerWidth.toNat⟩
       | none => ⟨s.time, (s.record i).triggerWidth.toNat⟩)
     triggerStamp := s.time, mark := !(s.port i).filteredRdy }) ∧
   (∀ (n : SiteId) (i : InstrId) (t : Timer) (s : State), (s.port i).spacing = some (n, t) → (s.port i).state = .idle →
     (s.reaches t = true → exec (.triggerSpacing i) s = .next (giveTrigger n i (s.passTo t))) ∧
     (s.reaches t = false → exec (.triggerSpacing i) s = .next s)) ∧
   (∀ (i : InstrId) (t : Timer) (s : State), (s.port i).pulse = some t →
     (s.reaches t = true →
       exec (.triggerPulseEnd i) s = .next ((s.passTo t).setPort i { s.port i with pulse := none })) ∧
     (s.reaches t = false → exec (.triggerPulseEnd i) s = .next s)) ∧
   (∀ (i : InstrId) (s : State), (s.port i).spacing = none ∨ (s.port i).state ≠ .idle →
     exec (.triggerSpacing i) s = .next s) ∧
   (∀ (i : InstrId) (s : State), (s.port i).pulse = none → exec (.triggerPulseEnd i) s = .next s))

/-- The port checks of a step, in their order: NOLEASE, OFFLINE, the checks of OUTPUT (an OUTPUT OFF without a source is done
at once), the wait for a port in COMMAND; then the command is sent from the port, or the first trigger given. A port that has
left COMMAND takes the source-off that waited for it, and then the steps that wait for it make their port checks again, in
site order. -/
def Obligations.PortStepsCheckAndSend : Prop :=
  ((∀ (i : InstrId) (s : State), (s.port i).state = .command → portFreed i s = s) ∧
   (∀ (i : InstrId) (s : State), (s.port i).state ≠ .command → portFreed i s =
     ([0, 1, 2, 3, 4, 5, 6, 7] : List SiteId).foldl (recheckPort i) (takeSourceOff i s)) ∧
   (∀ (i : InstrId) (n : SiteId) (s : State), (s.site n).phase ≠ .wait .port → recheckPort i s n = s) ∧
   (∀ (i : InstrId) (n : SiteId) (r : StepRecord) (s : State), (s.site n).phase = .wait .port →
     (s.site n).taking = some r →
     let again := fun (j : InstrId) (c : PortCommand) =>
       recheckPort i s n = if j = i then portStep n i c (s.setSite n { s.site n with phase := .step }) else s
     (∀ j f, r.kind = .configure j f → again j (.configure f)) ∧ (∀ j on, r.kind = .output j on → again j (.output on)) ∧
     (∀ f, r.kind = .measure f → again f.inst .sample) ∧ (∀ f, r.kind = .zero f → again f.inst .sample))) ∧
  ∀ (n : SiteId) (i : InstrId) (c : PortCommand) (s : State),
    ((s.lease i).holder ≠ some n → portStep n i c s = stepError n .noLease s) ∧
    ((s.lease i).holder = some n → (s.port i).state = .disabled ∨ (s.port i).state = .offline →
      portStep n i c s = stepError n .offline s) ∧
    ((s.lease i).holder = some n → (s.port i).state ≠ .disabled → (s.port i).state ≠ .offline →
      (c = .output true → (s.record i).sourceCapable = false → portStep n i c s = stepError n .nak s) ∧
      (c = .output true → (s.record i).sourceCapable = true → s.safe ≠ ⟨false, false, false⟩ →
        portStep n i c s = stepError n .safe s) ∧
      (c = .output true → (s.record i).sourceCapable = true → s.safe = ⟨false, false, false⟩ → s.routeMoving i = true →
        portStep n i c s = stepError n .hot s) ∧
      (c = .output false → (s.record i).sourceCapable = false → portStep n i c s = finishStep n false none s) ∧
      ((c = .output true → (s.record i).sourceCapable = true ∧ s.safe = ⟨false, false, false⟩ ∧ s.routeMoving i = false) →
        (c = .output false → (s.record i).sourceCapable = true) →
        ((s.port i).state = .command → portStep n i c s = s.setSite n { s.site n with phase := .wait .port }) ∧
        ((s.port i).state ≠ .command →
          let p := s.port i
          let t := s.setSite n { s.site n with phase := .step }
          let sent := fun (awaited : Awaited) (kind : Byte) (body : List Byte) (fields : Option ConfigFields) =>
            t.setPort i { p with
              state := .command, awaited := some awaited, user := some (.site n), seq := p.seq + 1
              outstanding := some (p.seq + 1), rxBytes := [], sentConfig := fields
              respTimer := some ⟨s.time, (s.record i).responseTimeout.toNat * 1000⟩
              lastSent := messageBytes ⟨kind, p.seq + 1, body⟩ }
          portStep n i c s =
            match c with
            | .configure f => sent .config 0x02 ([f.function, f.range, f.aperture] ++ le24 f.level.toNat) (some f)
            | .output on => sent (if on then .outputOn else .outputOff) 0x03 [if on then 1 else 0] p.sentConfig
            | .sample => giveTrigger n i (t.setSite n { t.site n with
                meas := { (s.site n).meas with phase := .sampling } }))))

/-! ### Measurement -/

/-- The division of the chapter rounds to the nearest integer, ties away from zero; a calibrated code stays within
±67,108,852. One sample in the context: the count, the stamps, the unit code and the UNCAL mark, then the overrange test with
its sign, the calibration and the route zero; a missing zero that is required sets NOZERO. -/
def Obligations.SamplesAreComputed : Prop :=
  ((∀ (a : Int) (b : Nat), 0 < b → 2 * (a - roundDiv a b * b).natAbs ≤ b ∧
     (2 * (a - roundDiv a b * b).natAbs = b → a.natAbs < (roundDiv a b).natAbs * b)) ∧
   (∀ (e : CalEntry) (r : Int), -8388608 ≤ e.offset → e.offset ≤ 8388607 → e.gain ≤ 16777215 → -8388607 ≤ r → r ≤ 8388606 →
     calibrate e r = roundDiv ((r - if e.valid then e.offset else 0) * (if e.valid then e.gain else 4194304 : Nat)) 4194304 ∧
     -67108852 ≤ calibrate e r ∧ calibrate e r ≤ 67108852)) ∧
  (∀ (m : Measure) (e : CalEntry) (requireZero : Bool) (r : Int) (flagged sign : Bool) (trigger conversion : Time),
     let base : Measure := { m with
       taken := m.taken + 1, firstTrigger := if m.taken = 0 then trigger else m.firstTrigger, lastConversion := conversion
       unitCode := e.unitCode, uncal := if e.valid then m.uncal else true }
     addSample m e requireZero r flagged sign trigger conversion =
       if r = 8388607 ∨ r = -8388608 ∨ flagged = true then
         { base with overrange := some (if r = 0 then sign else decide (r < 0)) }
       else
         match m.zero with
         | some z => accumulate base (calibrate e r - z)
         | none => if requireZero then { base with noZero := true } else accumulate base (calibrate e r))

/-- Stage 5 adds v to the sum and lowers or raises the extremes; the sum of up to 256 values within ±134,217,700 stays within
34,359,731,200. -/
def Obligations.SampleIsAccumulated : Prop :=
  (∀ (m : Measure) (v : Int), (accumulate m v).sum = m.sum + v ∧
    (m.minimum = none ∨ (∃ x, m.minimum = some x ∧ v < x) → (accumulate m v).minimum = some v) ∧
    (∀ x, m.minimum = some x → x ≤ v → (accumulate m v).minimum = some x) ∧
    (m.maximum = none ∨ (∃ x, m.maximum = some x ∧ x < v) → (accumulate m v).maximum = some v) ∧
    (∀ x, m.maximum = some x → v ≤ x → (accumulate m v).maximum = some x) ∧
    accumulate m v = { m with
      sum := (accumulate m v).sum, minimum := (accumulate m v).minimum, maximum := (accumulate m v).maximum }) ∧
  (∀ vs : List Int, vs.length ≤ 256 → (∀ v ∈ vs, -134217700 ≤ v ∧ v ≤ 134217700) →
    ((vs.foldl accumulate Measure.empty).sum).natAbs ≤ 34359731200)

/-- The measured value: the clamp of an overrange, 0 without a required zero, and else the reduction of the samples. The
limits a value is judged by: none gives NOJUDGE, ABS its own, REL those about its reference variable (INVALID and NOREF
without one); a missing zero is INVALID and the set is not read. -/
def Obligations.SamplesAreReducedAndLimitsFormed : Prop :=
  ((∀ (mode : ReduceMode) (m : Measure), m.overrange = some false → measuredValue mode m = 134217727) ∧
   (∀ (mode : ReduceMode) (m : Measure), m.overrange = some true → measuredValue mode m = -134217727) ∧
   (∀ (mode : ReduceMode) (m : Measure), m.overrange = none → m.noZero = true → measuredValue mode m = 0) ∧
   (∀ (v : Int) (vs : List Int) (m : Measure), m.overrange = none → m.noZero = false → m.taken = vs.length + 1 →
     m.sum = (v :: vs).sum → m.minimum = (v :: vs).min? → m.maximum = (v :: vs).max? →
     measuredValue .mean m = roundDiv (v :: vs).sum (vs.length + 1) ∧
     some (measuredValue .min m) = (v :: vs).min? ∧ some (measuredValue .max m) = (v :: vs).max? ∧
     (∀ lo hi, (v :: vs).min? = some lo → (v :: vs).max? = some hi → measuredValue .span m = min (hi - lo) 134217727))) ∧
  (∀ (vars : Vector Variable 8) (v : Int),
     judgeValue vars none false v = (.noJudge, false) ∧
     (∀ limit, judgeValue vars limit true v = (.invalid, false)) ∧
     (∀ (low high : Int) (g : Nat) (y : RelFields), judgeValue vars (some (.abs low high g y)) false v = (binOf low high g v, false)) ∧
     (∀ (x : Fin 8) (below above g : Nat) (y : AbsFields), vars[x].valid = false →
       judgeValue vars (some (.rel x below above g y)) false v = (.invalid, true)) ∧
     (∀ (x : Fin 8) (below above g : Nat) (y : AbsFields), vars[x].valid = true →
       judgeValue vars (some (.rel x below above g y)) false v =
         (binOf (vars[x].value - roundDiv ((vars[x].value.natAbs * below : Nat) : Int) 10000)
           (vars[x].value + roundDiv ((vars[x].value.natAbs * above : Nat) : Int) 10000) g v, false)))

/-- The bin by the four tests in their order; when the margins meet there is no PASS. -/
def Obligations.ValueIsPlacedInABin : Prop :=
  ∀ (lo hi v : Int) (g : Nat),
    (v < lo → binOf lo hi g v = .failLow) ∧
    (lo ≤ v → hi < v → binOf lo hi g v = .failHigh) ∧
    (lo ≤ v → v ≤ hi → v < lo + g ∨ hi - g < v → binOf lo hi g v = .margin) ∧
    (lo ≤ v → v ≤ hi → lo + g ≤ v → v ≤ hi - g → binOf lo hi g v = .pass) ∧
    (hi - g < lo + g → binOf lo hi g v ≠ .pass)

/-- A MEASURE or ZERO checks its limit set and its route before its port: BADSTEP, NOROUTE, ROUTE_FAULT, a wait for a route
in MAKING, or the port checks with the zero of a route that is MADE (a ZERO reads none). -/
def Obligations.SamplingStepsCheckTheRoute : Prop :=
  ∀ (n : SiteId) (r : StepRecord) (s : State),
    let context := fun (e : Option EntryId) (zero : Option Int) =>
      { Measure.empty with phase := .checking, entry := e, zero := zero }
    let t := s.setSite n { s.site n with meas := context none none, settleOn := none }
    (∀ (f : MeasureFields) (l : Byte), r.kind = .measure f → f.limit = some l → s.limits.get l.toNat = none →
      samplingStep n r s = stepError n .badStep t) ∧
    (∀ f : MeasureFields, r.kind = .measure f → (∀ l, f.limit = some l → s.limits.get l.toNat ≠ none) →
      (f.route = none → samplingStep n r s = portStep n f.inst .sample t) ∧
      ∀ d, f.route = some d →
        (s.routeFor n d = none → samplingStep n r s = stepError n .noRoute t) ∧
        ∀ e x, s.routeFor n d = some e → s.route e = some x →
          (x.state = .faulted → samplingStep n r s = stepError n .routeFault t) ∧
          (x.state = .making → samplingStep n r s = t.setSite n { t.site n with
            phase := .wait .settle, settleOn := some e }) ∧
          (x.state = .made → samplingStep n r s = portStep n f.inst .sample (t.setSite n { t.site n with
            meas := context (some e) x.zero }))) ∧
    (∀ f : ZeroFields, r.kind = .zero f →
      (s.routeFor n f.route = none → samplingStep n r s = stepError n .noRoute t) ∧
      ∀ e x, s.routeFor n f.route = some e → s.route e = some x →
        (x.state = .faulted → samplingStep n r s = stepError n .routeFault t) ∧
        (x.state = .making → samplingStep n r s = t.setSite n { t.site n with
          phase := .wait .settle, settleOn := some e }) ∧
        (x.state = .made → samplingStep n r s = portStep n f.inst .sample (t.setSite n { t.site n with
          meas := context (some e) none })))

/-- A sample that its site asked for goes into its context; the next trigger follows at its spacing, until the samples asked
for are taken or the measurement has stopped; then the result is formed and posted, or completed at once without a record. -/
def Obligations.SampleIsTaken : Prop :=
  ∀ (n : SiteId) (i : InstrId) (code : Int) (flagged sign : Bool) (trigger conversion : Time) (r : StepRecord) (x : Sampling)
    (s : State), (s.site n).taking = some r → r.sampling = some x →
    ((s.site n).meas.phase ≠ .sampling → takeSample n i code flagged sign trigger conversion s = s) ∧
    ((s.site n).meas.phase = .sampling →
      let m := addSample (s.site n).meas s.cal[x.inst][x.range] x.requireZero code flagged sign trigger conversion
      let t := s.setSite n { s.site n with meas := m }
      i = x.inst →
      (m.taken < x.samples → m.overrange = none → m.noZero = false →
        takeSample n i code flagged sign trigger conversion s =
          if x.spacing.toNat ≤ (s.time - (s.port i).triggerStamp).toNat then giveTrigger n i t
          else t.setPort i { s.port i with spacing := some (n, ⟨(s.port i).triggerStamp, x.spacing.toNat⟩) }) ∧
      (x.samples ≤ m.taken ∨ m.overrange ≠ none ∨ m.noZero = true →
        let j : Judged :=
          match r.kind with
          | .measure f =>
            let v := measuredValue f.mode m
            let b := judgeValue (s.site n).vars (f.limit.bind fun l => s.limits.get l.toNat) m.noZero v
            { value := v, bin := b.1, ovr := m.overrange.isSome, uncal := m.uncal, noZero := m.noZero, noRef := b.2
              manual := decide ((s.site n).state = .manual) }
          | _ =>
            let v := measuredValue .mean m
            { value := v, bin := if m.overrange = none ∧ v.natAbs ≤ 67108848 then .noJudge else .invalid
              ovr := m.overrange.isSome, uncal := m.uncal, noZero := false, noRef := false
              manual := decide ((s.site n).state = .manual) }
        let u := t.setSite n { t.site n with meas := { m with phase := .posting, result := some j } }
        takeSample n i code flagged sign trigger conversion s =
          match r.kind with
          | .measure f => if f.record then takePost n u else completeMeasurement n j u
          | _ => takePost n u))

/-- A MEASURE completes: the store variable unless the bin is INVALID, the last judgement, in RUN the counter of the bin and
the worst bin, the context emptied, and the outcome of the bin; the bin goes with every outcome to the end of the step (in
MANUAL this is log entry 39, read from R31). A counter past its largest value is a free value (log entry 5). A ZERO
completes: an accepted mean becomes the zero of its route entry and the step is done; a refused one ends the step with
NOZERO_OVR, in RUN by a teardown put on the agenda, behind the post (log entry 10), in MANUAL by STEP_DONE (its outcome byte
is a free value, log entry 4). -/
def Obligations.SamplingStepsComplete : Prop :=
  (∀ (n : SiteId) (f : MeasureFields) (j : Judged) (r : StepRecord) (s : State), (s.site n).taking = some r →
     r.kind = .measure f →
     let c := s.site n
     let bump := fun x : BitVec 32 => if x = 4294967295 then Config.runCountPastMax s.freeIndex else x + 1
     let isFail := j.bin = .failLow ∨ j.bin = .failHigh ∨ j.bin = .invalid
     let vars := match f.store with
       | some k => if j.bin = .invalid then c.vars else c.vars.set k ⟨j.value, true⟩
       | none => c.vars
     (c.state = .manual → completeMeasurement n j s = finishStep n (decide isFail) (some j.bin)
       (s.setSite n { c with vars := vars, lastJudgement := some j.bin, meas := .empty })) ∧
     (c.state = .run → completeMeasurement n j s = finishStep n (decide isFail) (some j.bin)
       { s.setSite n { c with
           vars := vars, lastJudgement := some j.bin, meas := .empty
           passCount := if j.bin = .pass then bump c.passCount else c.passCount
           marginCount := if j.bin = .margin then bump c.marginCount else c.marginCount
           failCount := if isFail then bump c.failCount else c.failCount
           noJudgeCount := if j.bin = .noJudge then bump c.noJudgeCount else c.noJudgeCount
           worst := if isFail then some .fail
             else if j.bin = .margin ∧ c.worst ≠ some .fail then some .margin
             else if j.bin = .pass ∧ c.worst = none then some .pass
             else c.worst } with
         freeIndex :=
           if (j.bin = .pass ∧ c.passCount = 4294967295) ∨ (j.bin = .margin ∧ c.marginCount = 4294967295) ∨
             (isFail ∧ c.failCount = 4294967295) ∨ (j.bin = .noJudge ∧ c.noJudgeCount = 4294967295)
           then s.freeIndex + 1 else s.freeIndex })) ∧
  (∀ (n : SiteId) (f : ZeroFields) (j : Judged) (r : StepRecord) (s : State), (s.site n).taking = some r → r.kind = .zero f →
     (∀ e x, j.bin ≠ .invalid → (s.site n).meas.entry = some e → s.route e = some x →
       completeMeasurement n j s = finishStep n false none
         ({ s with routes := s.routes.put e { x with zero := some j.value } }.setSite n { s.site n with meas := .empty })) ∧
     (j.bin = .invalid → (s.site n).state = .run → completeMeasurement n j s =
       { s.setSite n { s.site n with
           meas := .empty, phase := .step, taking := none, stepTimer := none, settleOn := none, needNodes := [] } with
         agenda := s.agenda ++ [(n, .enter .stepError (some .noZeroOvr))] }) ∧
     (j.bin = .invalid → (s.site n).state = .manual → completeMeasurement n j s =
       notice 0x82 ([BitVec.ofNat 8 n, 0x08] ++ le16 r.tag.toNat ++ [Config.code .stepOutcome 2, 0xFF, 14] ++
           le32 s.time.toNat)
         (s.setSite n { s.site n with
           meas := .empty, phase := .noStep, taking := none, stepTimer := none, settleOn := none, needNodes := [] })))

/-! ### The fixture monitor -/

/-- Usability: a site at rest is IDLE when an identity is in force, the site lies below its site count, its seat reads
present and the lid closed, and UNSEATED otherwise; a site in RUN, MANUAL or TEARDOWN does not move. The filter of a line: a
change of the raw level restarts its time, and is due at once under a filter time of 0. A line is judged at the raw level
once the raw level has held for the filter time, else at the filtered level; LID is not judged while the engine is BUSY. A
line whose state stays takes the level and nothing else (the model's choice, log entry 14). INPUTS_SET replaces the settings
of all seventeen lines, then judges each line in order; no change accepted here is a start press. A polarity or edge select
that names no value is refused with BAD_VALUE. The codes of HIGH, LOW, PRESS and RELEASE are the model's choice (log entry
13). -/
def Obligations.LinesAreFilteredAndUsabilityJudged : Prop :=
  ((∀ (n : SiteId) (s : State), s.usable n = true ↔
     (s.fixture.state = .valid ∨ s.fixture.state = .emulated) ∧
       (∃ i, s.fixture.held = some i ∧ n.val < i.header.siteCount.toNat) ∧
       (s.line (seatLine n)).active = true ∧ (s.line 16).active = true) ∧
   (∀ (n : SiteId) (s : State), (s.site n).state = .unseated ∨ (s.site n).state = .idle →
     judgeSite s n = s.setSite n { s.site n with state := if s.usable n then .idle else .unseated }) ∧
   (∀ (n : SiteId) (s : State), (s.site n).state = .run ∨ (s.site n).state = .manual ∨ (s.site n).state = .teardown →
     judgeSite s n = s) ∧
   (∀ (n : SiteId) (s : State), (judgeAll s).site n = (judgeSite s n).site n ∧
     judgeAll s = { s with sites := (judgeAll s).sites })) ∧
  ((∀ (l : LineId) (level : Bool) (s : State), level ≠ (s.line l).raw →
     let t := s.setLine l { s.line l with raw := level, lastChange := s.time }
     exec (.inputRawChange l level) s = .next
       (if level ≠ (s.line l).filtered ∧ (s.line l).filter = 0 then settle (judgeLine l true t) else t)) ∧
   (∀ (l : LineId) (s : State), exec (.inputRawChange l (s.line l).raw) s = .next s) ∧
   (∀ (l : LineId) (mayPress : Bool) (s : State),
     let x := s.line l
     let level := if x.raw ≠ x.filtered ∧ x.filter.toNat * 1000 ≤ (s.time - x.lastChange).toNat then x.raw else x.filtered
     let active := decide (level = x.polarity)
     (l = 16 → s.fixture.busy = true → judgeLine l mayPress s = s) ∧
     (l ≠ 16 ∨ s.fixture.busy = false → active = x.active →
       judgeLine l mayPress s = s.setLine l { x with filtered := level }) ∧
     (l ≠ 16 ∨ s.fixture.busy = false → active ≠ x.active →
       judgeLine l mayPress s = acceptChange l level active mayPress s))) ∧
  ((∀ (tag : Byte) (xs : Vector (Byte × Bool × EdgeSelect) 17),
     let body := xs.toList.flatMap fun x => [x.1, if x.2.1 then 0 else 1, if x.2.2 = .press then 0 else 1]
     Answers (.inputsSet tag body) ⟨0x2F, tag, body⟩ (fun _ => True) fun s =>
       settle (send ⟨0x6F, tag, [0x00]⟩ (allLines.foldl (fun t l => judgeLine l false t)
         { s with lines := .ofFn fun l =>
           { s.lines[l] with filter := xs[l].1, polarity := xs[l].2.1, edge := xs[l].2.2 } }))) ∧
   (∀ (tag : Byte) (body : List Byte), body.length = 51 →
     (∃ k < 51, k % 3 ≠ 0 ∧ 1 < (body.getD k 0).toNat) →
     Refuses (.inputsSet tag body) ⟨0x2F, tag, body⟩ (fun s => s.agenda = []) 0x03))

/-- A SEAT change that is due is latched and reported, and the site is judged; a change to absent tears a working site down
with SEAT_LOST. A change that is not reached changes nothing, and time passes to one that is (log entry 2); the notice's code
bytes are free values (log entry 4) and its all-ones bytes log entry 8. A level that leaves the state as it is is taken and
nothing else (log entry 14), and an event without a pending change does nothing (log entry 27). A START change that is due is latched and reported. When its direction is the line's start press, it begins a run of an
enabled IDLE site outside the safe state that the queue can reserve a place for, and is reported refused otherwise. -/
def Obligations.SeatAndStartChangesAreHandedOn : Prop :=
  (∀ (n : SiteId) (s : State),
     let x := s.line (seatLine n)
     let u := s.passTo ⟨x.lastChange, x.filter.toNat * 1000⟩
     let active := decide (x.raw = x.polarity)
     let reached := s.reaches ⟨x.lastChange, x.filter.toNat * 1000⟩
     (x.raw = x.filtered ∨ reached = false → exec (.seatChange n) s = .next s) ∧
     (x.raw ≠ x.filtered → reached = true → active = x.active →
       exec (.seatChange n) s = .next (settle (u.setLine (seatLine n) { x with filtered := x.raw }))) ∧
     (x.raw ≠ x.filtered → reached = true → active ≠ x.active →
       let v := judgeSite (notice 0x84
         ([Config.code .lineKind 0, BitVec.ofNat 8 n, Config.code .lineState (if active then 0 else 1),
           0xFF, 0xFF, 0xFF, 0xFF] ++ le32 u.time.toNat)
         (u.setLine (seatLine n) { x with
           filtered := x.raw, active := active
           latchActive := x.latchActive || active, latchInactive := x.latchInactive || !active })) n
       exec (.seatChange n) s = .next (settle (if active then v else enterTeardown n .seatLost none v)))) ∧
  (∀ (n : SiteId) (s : State),
     let x := s.line (startLine n)
     let u := s.passTo ⟨x.lastChange, x.filter.toNat * 1000⟩
     let active := decide (x.raw = x.polarity)
     let v := u.setLine (startLine n) { x with
       filtered := x.raw, active := active
       latchActive := x.latchActive || active, latchInactive := x.latchInactive || !active }
     let report := fun (press : List Byte) (w : State) => notice 0x84
       ([Config.code .lineKind 1, BitVec.ofNat 8 n, Config.code .lineState (if active then 2 else 3)] ++ press ++
         le32 w.time.toNat) w
     let pressed := (x.edge = .press ∧ active = true) ∨ (x.edge = .release ∧ active = false)
     let begins := (s.site n).startEnable = true ∧ s.safe = ⟨false, false, false⟩ ∧ (s.site n).state = .idle ∧
       s.runCount < s.free
     let reached := s.reaches ⟨x.lastChange, x.filter.toNat * 1000⟩
     (x.raw = x.filtered ∨ reached = false → exec (.startChange n) s = .next s) ∧
     (x.raw ≠ x.filtered → reached = true → active = x.active →
       exec (.startChange n) s = .next (settle (u.setLine (startLine n) { x with filtered := x.raw }))) ∧
     (x.raw ≠ x.filtered → reached = true → active ≠ x.active → ¬pressed →
       exec (.startChange n) s = .next (settle (report [0, 0xFF, 0xFF, 0xFF] v))) ∧
     (x.raw ≠ x.filtered → reached = true → active ≠ x.active → pressed → ¬begins →
       exec (.startChange n) s = .next (settle (report [1, 1, 0xFF, 0xFF] v))) ∧
     (x.raw ≠ x.filtered → reached = true → active ≠ x.active → pressed → begins →
       let number : BitVec 16 := if (s.site n).runNumber = 65535 then 1 else (s.site n).runNumber + 1
       exec (.startChange n) s = .next (settle (report ([1, 0] ++ le16 number.toNat)
         (beginRun n (s.site n).entryStep false v)))))

/-- A lid opening that is due adds the safe cause LID, drops a waiting load with its FIXTURE notice, and every site is
judged. A lid close removes the cause, returns the fixture memory to MONITOR and begins a load unless the identity is
EMULATED. Neither is taken while the engine is BUSY. A change that is not reached changes nothing, and time passes to one that
is (log entry 2); a level that leaves the state as it is is taken and nothing else (log entry 14), and an event that does not
fit the line does nothing (log entry 27). Code bytes are free values (log entry 4), all-ones bytes log entry 8, what the
engine's bus record holds log entry 45. The FIXTURE notice, and a load that begins: its HEADER read at once when
no route is live, WAITING otherwise; a waiting load begins its HEADER read when the last live route is gone. -/
def Obligations.LidChangesBeginLoads : Prop :=
  (∀ s : State,
     let x := s.line 16
     let u := s.passTo ⟨x.lastChange, x.filter.toNat * 1000⟩
     let report := fun (active : Bool) => notice 0x84
       ([Config.code .lineKind 2, 0xFF, Config.code .lineState (if active then 4 else 5), 0xFF, 0xFF, 0xFF, 0xFF] ++
         le32 u.time.toNat)
       (u.setLine 16 { x with
         filtered := x.raw, active := active
         latchActive := x.latchActive || active, latchInactive := x.latchInactive || !active })
     let reached := s.reaches ⟨x.lastChange, x.filter.toNat * 1000⟩
     (s.fixture.busy = true ∨ x.raw = x.filtered ∨ reached = false → exec .lidOpen s = .next s ∧ exec .lidClose s = .next s) ∧
     (x.raw = x.polarity → exec .lidOpen s = .next s) ∧
     (x.raw ≠ x.polarity → exec .lidClose s = .next s) ∧
     (s.fixture.busy = false → reached = true → x.raw ≠ x.filtered → x.active = decide (x.raw = x.polarity) →
       let v := settle (u.setLine 16 { x with filtered := x.raw })
       (x.raw ≠ x.polarity → exec .lidOpen s = .next v) ∧ (x.raw = x.polarity → exec .lidClose s = .next v)) ∧
     (s.fixture.busy = false → reached = true → x.raw ≠ x.filtered → x.raw ≠ x.polarity → x.active = true →
       let v := safeAdd .lid (report false)
       exec .lidOpen s = .next (settle (judgeAll
         (if s.fixture.state = .loading ∧ s.fixture.loadStep = some .waiting then
           fixtureNotice { v with fixture := { v.fixture with state := .noIdentity, loadStep := none } }
         else v)))) ∧
     (s.fixture.busy = false → reached = true → x.raw ≠ x.filtered → x.raw = x.polarity → x.active = false →
       let v := safeRemove .lid (report true)
       let w : State := { v with fixture := { v.fixture with owner := .monitor } }
       exec .lidClose s = .next (settle (judgeAll (if s.fixture.state = .emulated then w else beginLoad w))))) ∧
  ((∀ s : State, fixtureNotice s = notice 0x85
     ([Config.code .fixtureState (fixtureStateCode s.fixture.state)] ++
       (match s.fixture.loadCause with | some c => [Config.code .loadCause (loadCauseCode c)] | none => [0xFF]) ++
       (match s.fixture.held with
         | some i => le16 i.header.type.toNat ++ le32 i.header.serial.toNat ++ [i.header.revision, i.header.siteCount]
         | none => .replicate 8 0xFF) ++ le32 s.time.toNat) s) ∧
   (∀ s : State, s.routes.entries = [] → beginLoad s = { s with fixture := { s.fixture with
     state := .loading, loadStep := some .header, headerBytes := [], busy := true
     lastCommand := some (.loadHeader, 0, 9), error := none
     sent := [.start, .byte 0xB8, .byte 0, .byte 0, .start, .byte 0xB9] } }) ∧
   (∀ s : State, s.routes.entries ≠ [] → beginLoad s = { s with fixture := { s.fixture with
     state := .loading, loadStep := some .waiting, headerBytes := [] } }) ∧
   (∀ s : State, listEmptied s =
     if s.routes.entries = [] ∧ s.fixture.state = .loading ∧ s.fixture.loadStep = some .waiting then
       { s with fixture := { s.fixture with
         loadStep := some .header, headerBytes := [], busy := true, lastCommand := some (.loadHeader, 0, 9)
         error := none, sent := [.start, .byte 0xB8, .byte 0, .byte 0, .start, .byte 0xB9] } }
     else s))

/-- The HEADER read ends: NOACK, FORMAT and COUNT end the load INVALID; a sound header begins the BODY read in the same
event. The BODY read ends the load: NOACK with the header fields held, or the whole record, VALID when its CRC is right and
its windows lie within the matrix without overlap, INVALID with CRC or WINDOW otherwise; the sites are judged and LID is
tested. On the bus a read acknowledges every byte but its last and ends in a stop, the BODY read follows the HEADER read, and
a byte that is not acknowledged is followed by a stop at once (log entry 45). -/
def Obligations.LoadsEndInTheirChecks : Prop :=
  (∀ s : State, s.fixture.state = .loading → s.fixture.loadStep = some .header →
     let ends := fun (held : Option Identity) (cause : LoadCause) (error : Option EngineError) (items : List BusItem) =>
       settle (judgeLine 16 true (judgeAll (fixtureNotice { s with fixture := { s.fixture with
         held := held, state := .invalid, loadCause := some cause, loadStep := none, headerBytes := [], busy := false
         error := error, sent := items } })))
     let collected := s.fixture.sent ++ List.replicate 8 (.ack true) ++ [.ack false, .stop]
     (∀ k : Fin 4, exec (.loadHeaderDone (.refused k)) s =
       .next (ends none .noAck (some .noAck) (cutItems k s.fixture.sent))) ∧
     ∀ (format t0 t1 s0 s1 s2 s3 revision count : Byte),
       let bytes := [format, t0, t1, s0, s1, s2, s3, revision, count]
       let held := some ⟨⟨format, t1 ++ t0, s3 ++ s2 ++ s1 ++ s0, revision, count⟩, none⟩
       (format ≠ 1 → exec (.loadHeaderDone (.bytes bytes)) s = .next (ends held .format s.fixture.error collected)) ∧
       (format = 1 → count = 0 ∨ 8 < count.toNat →
         exec (.loadHeaderDone (.bytes bytes)) s = .next (ends held .count s.fixture.error collected)) ∧
       (format = 1 → 1 ≤ count.toNat → count.toNat ≤ 8 →
         exec (.loadHeaderDone (.bytes bytes)) s = .next (settle { s with fixture := { s.fixture with
           loadStep := some .body, headerBytes := bytes, lastCommand := some (.loadBody, 9, 4 * count.toNat + 2)
           error := none
           sent := collected ++ [.start, .byte 0xB8, .byte 0, .byte 9, .start, .byte 0xB9] } }))) ∧
  (∀ (h : IdentityHeader) (ws : List Window) (crc : BitVec 16) (s : State), s.fixture.state = .loading →
     s.fixture.loadStep = some .body → s.fixture.headerBytes = headerBytesOf h → h.siteCount.toNat = ws.length →
     (∀ w ∈ ws, w.base < 65536 ∧ w.size < 65536) →
     let record := headerBytesOf h ++ ws.flatMap fun w => le16 w.base ++ le16 w.size
     let body := (ws.flatMap fun w => le16 w.base ++ le16 w.size) ++
       [BitVec.ofNat 8 (crc.toNat / 256), BitVec.ofNat 8 crc.toNat]
     let sound := (∀ w ∈ ws, 1 ≤ w.size ∧ w.base + w.size ≤ 512) ∧
       ws.Pairwise fun a b => ¬(a.base < b.base + b.size ∧ b.base < a.base + a.size)
     let ends := fun (held : Option Identity) (cause : Option LoadCause) (error : Option EngineError)
         (items : List BusItem) =>
       settle (judgeLine 16 true (judgeAll (fixtureNotice { s with fixture := { s.fixture with
         held := held, state := if cause = none then .valid else .invalid, loadCause := cause, loadStep := none
         headerBytes := [], busy := false, error := error, sent := items } })))
     let collected := s.fixture.sent ++ List.replicate (4 * ws.length + 1) (.ack true) ++ [.ack false, .stop]
     (∀ k : Fin 4, exec (.loadBodyDone (.refused k)) s =
       .next (ends (some ⟨h, none⟩) (some .noAck) (some .noAck) (cutItems (4 + k) s.fixture.sent))) ∧
     (crc16 record ≠ crc →
       exec (.loadBodyDone (.bytes body)) s = .next (ends (some ⟨h, some (ws, crc)⟩) (some .crc) s.fixture.error collected)) ∧
     (crc16 record = crc → ¬sound →
       exec (.loadBodyDone (.bytes body)) s = .next (ends (some ⟨h, some (ws, crc)⟩) (some .window) s.fixture.error collected)) ∧
     (crc16 record = crc → sound →
       exec (.loadBodyDone (.bytes body)) s = .next (ends (some ⟨h, some (ws, crc)⟩) none s.fixture.error collected)))

/-- FIXTURE_DEFINE puts a sound record in force as EMULATED, with its notice, and judges every site; a record that fails a
check is BAD_VALUE, a load in progress BUSY, a site not at rest STATE, in that order. FIXTURE_RELOAD replies OK, then begins
a load under a closed lid and clears the identity to NONE under an open one; BUSY and STATE refuse it. -/
def Obligations.IdentitiesAreDefinedAndReloaded : Prop :=
  (∀ (tag format : Byte) (type : BitVec 16) (serial : BitVec 32) (revision : Byte) (ws : List Window) (crc : BitVec 16),
     1 ≤ ws.length → ws.length ≤ 8 → (∀ w ∈ ws, w.base < 65536 ∧ w.size < 65536) →
     let h : IdentityHeader := ⟨format, type, serial, revision, BitVec.ofNat 8 ws.length⟩
     let record := headerBytesOf h ++ ws.flatMap fun w => le16 w.base ++ le16 w.size
     let body := record ++ [BitVec.ofNat 8 (crc.toNat / 256), BitVec.ofNat 8 crc.toNat]
     let sound := format = 1 ∧ crc16 record = crc ∧ (∀ w ∈ ws, 1 ≤ w.size ∧ w.base + w.size ≤ 512) ∧
       ws.Pairwise fun a b => ¬(a.base < b.base + b.size ∧ b.base < a.base + a.size)
     (¬sound → Refuses (.fixtureDefine tag body) ⟨0x29, tag, body⟩ (fun _ => True) 0x03) ∧
     (sound → Refuses (.fixtureDefine tag body) ⟨0x29, tag, body⟩ (fun s => s.fixture.state = .loading) 0x05) ∧
     (sound → Refuses (.fixtureDefine tag body) ⟨0x29, tag, body⟩
       (fun s => s.fixture.state ≠ .loading ∧ s.anyBusySite = true) 0x04) ∧
     (sound → Answers (.fixtureDefine tag body) ⟨0x29, tag, body⟩
       (fun s => s.fixture.state ≠ .loading ∧ s.anyBusySite = false) fun s =>
         send ⟨0x69, tag, [0x00]⟩ (judgeAll (fixtureNotice { s with fixture := { s.fixture with
           held := some ⟨h, some (ws, crc)⟩, state := .emulated, loadCause := none } })))) ∧
  (∀ tag,
     Refuses (.fixtureReload tag []) ⟨0x2A, tag, []⟩ (fun s => s.fixture.state = .loading) 0x05 ∧
     Refuses (.fixtureReload tag []) ⟨0x2A, tag, []⟩
       (fun s => s.fixture.state ≠ .loading ∧ (s.anyBusySite = true ∨ s.fixture.owner = .link)) 0x04 ∧
     Answers (.fixtureReload tag []) ⟨0x2A, tag, []⟩
       (fun s => s.fixture.state ≠ .loading ∧ s.anyBusySite = false ∧ s.fixture.owner = .monitor) fun s =>
         let t := send ⟨0x6A, tag, [0x00]⟩ s
         judgeAll
           (if (s.line 16).active then beginLoad t
           else fixtureNotice { t with fixture := { t.fixture with held := none, loadCause := none, state := .noIdentity } }))

/-! ### The fixture memory -/

/-- FIXMEM_TAKE gives the fixture memory to the link while the lid is open and every site at rest; FIXMEM_GIVE gives it back,
and is refused to a link that does not own it. -/
def Obligations.MemoryIsTakenAndGiven : Prop :=
  ∀ tag,
    Refuses (.fixmemTake tag []) ⟨0x2B, tag, []⟩ (fun s => (s.line 16).active = true ∨ s.anyBusySite = true) 0x04 ∧
    Answers (.fixmemTake tag []) ⟨0x2B, tag, []⟩ (fun s => (s.line 16).active = false ∧ s.anyBusySite = false) (fun s =>
      send ⟨0x6B, tag, [0x00]⟩ { s with fixture := { s.fixture with owner := .link } }) ∧
    Answers (.fixmemGive tag []) ⟨0x2C, tag, []⟩ (fun s => s.fixture.owner = .link) (fun s =>
      send ⟨0x6C, tag, [0x00]⟩ { s with fixture := { s.fixture with owner := .monitor } }) ∧
    Refuses (.fixmemGive tag []) ⟨0x2C, tag, []⟩ (fun s => s.fixture.owner = .monitor) 0x08

/-- FIXMEM_READ and FIXMEM_WRITE: BAD_VALUE and NOT_OWNER leave the engine untouched; a command that runs out of the memory,
or a write over a page boundary, ends with RANGE at once; any other makes its transfer, the request in progress until it
ends. A FIXMEM transfer ends: the error is set, the reply is queued, the engine is IDLE and LID is tested. A write whose
bytes are all acknowledged is polled every 500 µs from its stop, up to twenty times (log entry 15); a poll that is not
reached changes nothing, and time passes to one that is (log entry 2). On the bus a transfer sends a start, the device
address 0x5C with the write direction, the word address, high byte first, and then the data of a write or a second start and
the read direction; what it does there stands in State, and no reply reports it (log entry 45). The byte that ends a transfer
is followed by a stop (for a write's bus address and address bytes the model's choice, log entry 45). -/
def Obligations.MemoryTransfersRun : Prop :=
  ((∀ tag a0 a1 length : Byte,
     let c := Instr.fixmemRead tag [a0, a1, length]
     let f : Frame := ⟨0x2D, tag, [a0, a1, length]⟩
     let command := some (EngineCommand.read, read16 a0 a1, length.toNat)
     let good := read16 a0 a1 ≤ 2047 ∧ 1 ≤ length.toNat ∧ length.toNat ≤ 64
     (¬good → Refuses c f (fun _ => True) 0x03) ∧
     (good → Refuses c f (fun s => s.fixture.owner = .monitor) 0x08) ∧
     (good → 2048 < read16 a0 a1 + length.toNat → Answers c f (fun s => s.fixture.owner = .link) fun s =>
       send ⟨0x6D, tag, [0x09, 0x02]⟩ { s with fixture := { s.fixture with lastCommand := command, error := some .range } }) ∧
     (good → read16 a0 a1 + length.toNat ≤ 2048 → Answers c f (fun s => s.fixture.owner = .link) fun s =>
       { s with
         fixture := { s.fixture with
           lastCommand := command, error := none, busy := true, transfer := some (.read length.toNat)
           sent := [.start, .byte 0xB8, .byte a1, .byte a0, .start, .byte 0xB9] }
         link := { s.link with inProgress := some (.fixmem 0x2D tag) } })) ∧
   (∀ (tag a0 a1 : Byte) (data : List Byte),
     let c := Instr.fixmemWrite tag (a0 :: a1 :: data)
     let f : Frame := ⟨0x2E, tag, a0 :: a1 :: data⟩
     let command := some (EngineCommand.write, read16 a0 a1, data.length)
     let good := read16 a0 a1 ≤ 2047 ∧ 1 ≤ data.length ∧ data.length ≤ 16
     let onePage := read16 a0 a1 % 16 + data.length ≤ 16
     (¬good → data.length ≤ 1022 → Refuses c f (fun _ => True) 0x03) ∧
     (good → Refuses c f (fun s => s.fixture.owner = .monitor) 0x08) ∧
     (good → ¬onePage → Answers c f (fun s => s.fixture.owner = .link) fun s =>
       send ⟨0x6E, tag, [0x09, 0x02]⟩ { s with fixture := { s.fixture with lastCommand := command, error := some .range } }) ∧
     (good → onePage → Answers c f (fun s => s.fixture.owner = .link) fun s =>
       { s with
         fixture := { s.fixture with
           lastCommand := command, error := none, busy := true, transfer := some (.write data.length)
           sent := [.start, .byte 0xB8, .byte a1, .byte a0] ++ data.map .byte }
         link := { s.link with inProgress := some (.fixmem 0x2E tag) } }))) ∧
  (∀ (kind tag : Byte) (s : State), s.link.inProgress = some (.fixmem kind tag) →
     let ends := fun (error : Option EngineError) (body : List Byte) (items : List BusItem) (t : State) =>
       settle (judgeLine 16 true { t with
         link := { t.link with inProgress := none, tx := t.link.tx ++ [⟨kind + 0x40, tag, body⟩] }
         fixture := { t.fixture with error := error, busy := false, transfer := none, sent := items } })
     let before := s.fixture.sent
     let polled := before ++ [.start, .byte 0xB8, .stop]
     (∀ data : List Byte, s.fixture.transfer = some (.read data.length) →
       exec (.fixmemReadDone (.bytes data)) s = .next
         (ends none (0x00 :: data) (before ++ (List.replicate (data.length - 1) (.ack true) ++ [.ack false, .stop])) s)) ∧
     (∀ (length : Nat) (k : Fin 4), s.fixture.transfer = some (.read length) →
       exec (.fixmemReadDone (.refused k)) s = .next (ends (some .noAck) [0x09, 0x01] (cutItems k before) s)) ∧
     (∀ length, s.fixture.transfer = some (.write length) →
       exec (.fixmemWriteDone none) s = .next
         { s with fixture := { s.fixture with
           transfer := some (.poll length 0 ⟨s.time, 500⟩), sent := before ++ [.stop] } } ∧
       ∀ k < length + 3, exec (.fixmemWriteDone (some k)) s = .next
         (ends (some .noAck) [0x09, 0x01, BitVec.ofNat 8 (k - 3), 0] (cutItems k before) s)) ∧
     (∀ length polls t, s.fixture.transfer = some (.poll length polls t) →
       (s.reaches t = false → ∀ ack, exec (.fixmemWritePoll ack) s = .next s) ∧
       (s.reaches t = true →
         exec (.fixmemWritePoll true) s = .next (ends none [0x00] polled (s.passTo t)) ∧
         (polls < 19 → exec (.fixmemWritePoll false) s = .next
           (let u := s.passTo t
           { u with fixture := { u.fixture with
             transfer := some (.poll length (polls + 1) ⟨t.expiry, 500⟩), sent := polled } })) ∧
         (19 ≤ polls → exec (.fixmemWritePoll false) s = .next
           (ends (some .noAck) [0x09, 0x01, BitVec.ofNat 8 length, 1] polled (s.passTo t)))))) ∧
  ((∀ b0 b1 b2 b3 : Byte,
     let items := [BusItem.start, .byte b0, .byte b1, .byte b2, .start, .byte b3]
     cutItems 0 items = [.start, .byte b0, .stop] ∧ cutItems 1 items = [.start, .byte b0, .byte b1, .stop] ∧
     cutItems 2 items = [.start, .byte b0, .byte b1, .byte b2, .stop] ∧
     cutItems 3 items = [.start, .byte b0, .byte b1, .byte b2, .start, .byte b3, .stop]) ∧
   (∀ (k : Nat) (bytes : List Byte), k < bytes.length →
     cutItems k (.start :: bytes.map .byte) = .start :: (bytes.take (k + 1)).map .byte ++ [.stop]))

/-! ### Records and invariants -/

/-- A step record inside the ranges of its fields is read back whole from its twenty bytes, and no record is read whose
fields are out of range; the same round trip holds of route definitions and limit sets, and every route definition and limit
set that is read lies inside its ranges. -/
def Obligations.RecordsReadBackAsWritten : Prop :=
  (∀ r : StepRecord, r.inRange = true →
    (stepRecordBytes r).length = 20 ∧ readStepRecord (stepRecordBytes r) = some r) ∧
  (∀ (bytes : List Byte) (r : StepRecord), readStepRecord bytes = some r → r.inRange = true) ∧
  (∀ r : RouteDef, r.inRange = true →
    (routeDefBytes (some r)).length = 21 ∧ readRouteDef (routeDefBytes (some r)) = some (some r)) ∧
  (∀ (bytes : List Byte) (r : RouteDef), bytes.length = 21 → readRouteDef bytes = some (some r) → r.inRange = true) ∧
  (∀ l : LimitSet, l.inRange = true →
    (limitSetBytes (some l)).length = 18 ∧ readLimitSet (limitSetBytes (some l)) = some (some l)) ∧
  (∀ (bytes : List Byte) (l : LimitSet), readLimitSet bytes = some (some l) → l.inRange = true)

/-- No step uses up the result slots reserved for the RUN_END records: the records held and the sites in a run never pass
1,024 together. -/
def Obligations.StepsKeepTheResultReserve : Prop := ∀ s t : State, Reserve s → step s = .next t → Reserve t

/-- The receive buffer never holds more than two frames and the transmit queue never more than sixteen, and a FIXMEM request
in progress always finds a place for its reply. No step claims a bus twice, gives an incapable instrument a source state,
counts a fourth failure, lets an instrument that nobody holds be queued for, or runs a site without a run number. -/
def Obligations.StepsKeepBoundsClaimsAndRunNumbers : Prop :=
  (∀ s t : State, LinkBounds s → step s = .next t → LinkBounds t) ∧
  ((∀ s t : State, ClaimsSound s → step s = .next t → ClaimsSound t) ∧
   (∀ s t : State, PortsSound s → step s = .next t → PortsSound t) ∧
   (∀ s t : State, QueuesHeld s → step s = .next t → QueuesHeld t) ∧
   (∀ s t : State, RunsNumbered s → step s = .next t → RunsNumbered t))

/-- The numbered stores keep one canonical form inside their capacities, and a wear count listed is 1 to 16,777,215. -/
def Obligations.StepsKeepTheStoresCanonical : Prop := ∀ s t : State, StoresSound s → step s = .next t → StoresSound t

/-- The node map, the live routes and the commanded image agree after every step: a live route's nodes are its own, and
exactly the crosspoints of the routes in MAKING, MADE and FAULTED are in the image. -/
def Obligations.StepsKeepTheRoutesSound : Prop := ∀ s t : State, Sound s → step s = .next t → RoutesSound t
end

