-- ==== Sys2Proof/Laws/State.lean ====
section
/-! SUPPORT. One lemma per field of State per update of a part of it, true by rfl; reading back the part that was set. -/

namespace Sys2Proof.Machine

variable (s : State)

/-! ### State.setSite -/

@[simp] theorem State.setSite_time (n : SiteId) (c : Site) : (s.setSite n c).time = s.time := rfl
@[simp] theorem State.setSite_link (n : SiteId) (c : Site) : (s.setSite n c).link = s.link := rfl
@[simp] theorem State.setSite_steps (n : SiteId) (c : Site) : (s.setSite n c).steps = s.steps := rfl
@[simp] theorem State.setSite_routeDefs (n : SiteId) (c : Site) : (s.setSite n c).routeDefs = s.routeDefs := rfl
@[simp] theorem State.setSite_limits (n : SiteId) (c : Site) : (s.setSite n c).limits = s.limits := rfl
@[simp] theorem State.setSite_cal (n : SiteId) (c : Site) : (s.setSite n c).cal = s.cal := rfl
@[simp] theorem State.setSite_sites (n : SiteId) (c : Site) : (s.setSite n c).sites = s.sites.set n c := rfl
@[simp] theorem State.setSite_leases (n : SiteId) (c : Site) : (s.setSite n c).leases = s.leases := rfl
@[simp] theorem State.setSite_records (n : SiteId) (c : Site) : (s.setSite n c).records = s.records := rfl
@[simp] theorem State.setSite_ports (n : SiteId) (c : Site) : (s.setSite n c).ports = s.ports := rfl
@[simp] theorem State.setSite_routes (n : SiteId) (c : Site) : (s.setSite n c).routes = s.routes := rfl
@[simp] theorem State.setSite_nodes (n : SiteId) (c : Site) : (s.setSite n c).nodes = s.nodes := rfl
@[simp] theorem State.setSite_image (n : SiteId) (c : Site) : (s.setSite n c).image = s.image := rfl
@[simp] theorem State.setSite_chain (n : SiteId) (c : Site) : (s.setSite n c).chain = s.chain := rfl
@[simp] theorem State.setSite_wear (n : SiteId) (c : Site) : (s.setSite n c).wear = s.wear := rfl
@[simp] theorem State.setSite_queue (n : SiteId) (c : Site) : (s.setSite n c).queue = s.queue := rfl
@[simp] theorem State.setSite_lines (n : SiteId) (c : Site) : (s.setSite n c).lines = s.lines := rfl
@[simp] theorem State.setSite_fixture (n : SiteId) (c : Site) : (s.setSite n c).fixture = s.fixture := rfl
@[simp] theorem State.setSite_safe (n : SiteId) (c : Site) : (s.setSite n c).safe = s.safe := rfl
@[simp] theorem State.setSite_orders (n : SiteId) (c : Site) : (s.setSite n c).orders = s.orders := rfl
@[simp] theorem State.setSite_agenda (n : SiteId) (c : Site) : (s.setSite n c).agenda = s.agenda := rfl
@[simp] theorem State.setSite_freeIndex (n : SiteId) (c : Site) : (s.setSite n c).freeIndex = s.freeIndex := rfl
@[simp] theorem State.setSite_pending (n : SiteId) (c : Site) : (s.setSite n c).pending = s.pending := rfl

/-! ### State.setPort -/

@[simp] theorem State.setPort_time (i : InstrId) (p : Port) : (s.setPort i p).time = s.time := rfl
@[simp] theorem State.setPort_link (i : InstrId) (p : Port) : (s.setPort i p).link = s.link := rfl
@[simp] theorem State.setPort_steps (i : InstrId) (p : Port) : (s.setPort i p).steps = s.steps := rfl
@[simp] theorem State.setPort_routeDefs (i : InstrId) (p : Port) : (s.setPort i p).routeDefs = s.routeDefs := rfl
@[simp] theorem State.setPort_limits (i : InstrId) (p : Port) : (s.setPort i p).limits = s.limits := rfl
@[simp] theorem State.setPort_cal (i : InstrId) (p : Port) : (s.setPort i p).cal = s.cal := rfl
@[simp] theorem State.setPort_sites (i : InstrId) (p : Port) : (s.setPort i p).sites = s.sites := rfl
@[simp] theorem State.setPort_leases (i : InstrId) (p : Port) : (s.setPort i p).leases = s.leases := rfl
@[simp] theorem State.setPort_records (i : InstrId) (p : Port) : (s.setPort i p).records = s.records := rfl
@[simp] theorem State.setPort_ports (i : InstrId) (p : Port) : (s.setPort i p).ports = s.ports.set i p := rfl
@[simp] theorem State.setPort_routes (i : InstrId) (p : Port) : (s.setPort i p).routes = s.routes := rfl
@[simp] theorem State.setPort_nodes (i : InstrId) (p : Port) : (s.setPort i p).nodes = s.nodes := rfl
@[simp] theorem State.setPort_image (i : InstrId) (p : Port) : (s.setPort i p).image = s.image := rfl
@[simp] theorem State.setPort_chain (i : InstrId) (p : Port) : (s.setPort i p).chain = s.chain := rfl
@[simp] theorem State.setPort_wear (i : InstrId) (p : Port) : (s.setPort i p).wear = s.wear := rfl
@[simp] theorem State.setPort_queue (i : InstrId) (p : Port) : (s.setPort i p).queue = s.queue := rfl
@[simp] theorem State.setPort_lines (i : InstrId) (p : Port) : (s.setPort i p).lines = s.lines := rfl
@[simp] theorem State.setPort_fixture (i : InstrId) (p : Port) : (s.setPort i p).fixture = s.fixture := rfl
@[simp] theorem State.setPort_safe (i : InstrId) (p : Port) : (s.setPort i p).safe = s.safe := rfl
@[simp] theorem State.setPort_orders (i : InstrId) (p : Port) : (s.setPort i p).orders = s.orders := rfl
@[simp] theorem State.setPort_agenda (i : InstrId) (p : Port) : (s.setPort i p).agenda = s.agenda := rfl
@[simp] theorem State.setPort_freeIndex (i : InstrId) (p : Port) : (s.setPort i p).freeIndex = s.freeIndex := rfl
@[simp] theorem State.setPort_pending (i : InstrId) (p : Port) : (s.setPort i p).pending = s.pending := rfl

/-! ### State.setLease -/

@[simp] theorem State.setLease_time (i : InstrId) (l : Lease) : (s.setLease i l).time = s.time := rfl
@[simp] theorem State.setLease_link (i : InstrId) (l : Lease) : (s.setLease i l).link = s.link := rfl
@[simp] theorem State.setLease_steps (i : InstrId) (l : Lease) : (s.setLease i l).steps = s.steps := rfl
@[simp] theorem State.setLease_routeDefs (i : InstrId) (l : Lease) : (s.setLease i l).routeDefs = s.routeDefs := rfl
@[simp] theorem State.setLease_limits (i : InstrId) (l : Lease) : (s.setLease i l).limits = s.limits := rfl
@[simp] theorem State.setLease_cal (i : InstrId) (l : Lease) : (s.setLease i l).cal = s.cal := rfl
@[simp] theorem State.setLease_sites (i : InstrId) (l : Lease) : (s.setLease i l).sites = s.sites := rfl
@[simp] theorem State.setLease_leases (i : InstrId) (l : Lease) : (s.setLease i l).leases = s.leases.set i l := rfl
@[simp] theorem State.setLease_records (i : InstrId) (l : Lease) : (s.setLease i l).records = s.records := rfl
@[simp] theorem State.setLease_ports (i : InstrId) (l : Lease) : (s.setLease i l).ports = s.ports := rfl
@[simp] theorem State.setLease_routes (i : InstrId) (l : Lease) : (s.setLease i l).routes = s.routes := rfl
@[simp] theorem State.setLease_nodes (i : InstrId) (l : Lease) : (s.setLease i l).nodes = s.nodes := rfl
@[simp] theorem State.setLease_image (i : InstrId) (l : Lease) : (s.setLease i l).image = s.image := rfl
@[simp] theorem State.setLease_chain (i : InstrId) (l : Lease) : (s.setLease i l).chain = s.chain := rfl
@[simp] theorem State.setLease_wear (i : InstrId) (l : Lease) : (s.setLease i l).wear = s.wear := rfl
@[simp] theorem State.setLease_queue (i : InstrId) (l : Lease) : (s.setLease i l).queue = s.queue := rfl
@[simp] theorem State.setLease_lines (i : InstrId) (l : Lease) : (s.setLease i l).lines = s.lines := rfl
@[simp] theorem State.setLease_fixture (i : InstrId) (l : Lease) : (s.setLease i l).fixture = s.fixture := rfl
@[simp] theorem State.setLease_safe (i : InstrId) (l : Lease) : (s.setLease i l).safe = s.safe := rfl
@[simp] theorem State.setLease_orders (i : InstrId) (l : Lease) : (s.setLease i l).orders = s.orders := rfl
@[simp] theorem State.setLease_agenda (i : InstrId) (l : Lease) : (s.setLease i l).agenda = s.agenda := rfl
@[simp] theorem State.setLease_freeIndex (i : InstrId) (l : Lease) : (s.setLease i l).freeIndex = s.freeIndex := rfl
@[simp] theorem State.setLease_pending (i : InstrId) (l : Lease) : (s.setLease i l).pending = s.pending := rfl

/-! ### State.setChain -/

@[simp] theorem State.setChain_time (c : Chain) : (s.setChain c).time = s.time := rfl
@[simp] theorem State.setChain_link (c : Chain) : (s.setChain c).link = s.link := rfl
@[simp] theorem State.setChain_steps (c : Chain) : (s.setChain c).steps = s.steps := rfl
@[simp] theorem State.setChain_routeDefs (c : Chain) : (s.setChain c).routeDefs = s.routeDefs := rfl
@[simp] theorem State.setChain_limits (c : Chain) : (s.setChain c).limits = s.limits := rfl
@[simp] theorem State.setChain_cal (c : Chain) : (s.setChain c).cal = s.cal := rfl
@[simp] theorem State.setChain_sites (c : Chain) : (s.setChain c).sites = s.sites := rfl
@[simp] theorem State.setChain_leases (c : Chain) : (s.setChain c).leases = s.leases := rfl
@[simp] theorem State.setChain_records (c : Chain) : (s.setChain c).records = s.records := rfl
@[simp] theorem State.setChain_ports (c : Chain) : (s.setChain c).ports = s.ports := rfl
@[simp] theorem State.setChain_routes (c : Chain) : (s.setChain c).routes = s.routes := rfl
@[simp] theorem State.setChain_nodes (c : Chain) : (s.setChain c).nodes = s.nodes := rfl
@[simp] theorem State.setChain_image (c : Chain) : (s.setChain c).image = s.image := rfl
@[simp] theorem State.setChain_chain (c : Chain) : (s.setChain c).chain = c := rfl
@[simp] theorem State.setChain_wear (c : Chain) : (s.setChain c).wear = s.wear := rfl
@[simp] theorem State.setChain_queue (c : Chain) : (s.setChain c).queue = s.queue := rfl
@[simp] theorem State.setChain_lines (c : Chain) : (s.setChain c).lines = s.lines := rfl
@[simp] theorem State.setChain_fixture (c : Chain) : (s.setChain c).fixture = s.fixture := rfl
@[simp] theorem State.setChain_safe (c : Chain) : (s.setChain c).safe = s.safe := rfl
@[simp] theorem State.setChain_orders (c : Chain) : (s.setChain c).orders = s.orders := rfl
@[simp] theorem State.setChain_agenda (c : Chain) : (s.setChain c).agenda = s.agenda := rfl
@[simp] theorem State.setChain_freeIndex (c : Chain) : (s.setChain c).freeIndex = s.freeIndex := rfl
@[simp] theorem State.setChain_pending (c : Chain) : (s.setChain c).pending = s.pending := rfl

/-! ### State.setCard -/

@[simp] theorem State.setCard_time (k : CardId) (c : Card) : (s.setCard k c).time = s.time := rfl
@[simp] theorem State.setCard_link (k : CardId) (c : Card) : (s.setCard k c).link = s.link := rfl
@[simp] theorem State.setCard_steps (k : CardId) (c : Card) : (s.setCard k c).steps = s.steps := rfl
@[simp] theorem State.setCard_routeDefs (k : CardId) (c : Card) : (s.setCard k c).routeDefs = s.routeDefs := rfl
@[simp] theorem State.setCard_limits (k : CardId) (c : Card) : (s.setCard k c).limits = s.limits := rfl
@[simp] theorem State.setCard_cal (k : CardId) (c : Card) : (s.setCard k c).cal = s.cal := rfl
@[simp] theorem State.setCard_sites (k : CardId) (c : Card) : (s.setCard k c).sites = s.sites := rfl
@[simp] theorem State.setCard_leases (k : CardId) (c : Card) : (s.setCard k c).leases = s.leases := rfl
@[simp] theorem State.setCard_records (k : CardId) (c : Card) : (s.setCard k c).records = s.records := rfl
@[simp] theorem State.setCard_ports (k : CardId) (c : Card) : (s.setCard k c).ports = s.ports := rfl
@[simp] theorem State.setCard_routes (k : CardId) (c : Card) : (s.setCard k c).routes = s.routes := rfl
@[simp] theorem State.setCard_nodes (k : CardId) (c : Card) : (s.setCard k c).nodes = s.nodes := rfl
@[simp] theorem State.setCard_image (k : CardId) (c : Card) : (s.setCard k c).image = s.image := rfl
@[simp] theorem State.setCard_chain (k : CardId) (c : Card) : (s.setCard k c).chain = { s.chain with cards := s.chain.cards.set k c } := rfl
@[simp] theorem State.setCard_wear (k : CardId) (c : Card) : (s.setCard k c).wear = s.wear := rfl
@[simp] theorem State.setCard_queue (k : CardId) (c : Card) : (s.setCard k c).queue = s.queue := rfl
@[simp] theorem State.setCard_lines (k : CardId) (c : Card) : (s.setCard k c).lines = s.lines := rfl
@[simp] theorem State.setCard_fixture (k : CardId) (c : Card) : (s.setCard k c).fixture = s.fixture := rfl
@[simp] theorem State.setCard_safe (k : CardId) (c : Card) : (s.setCard k c).safe = s.safe := rfl
@[simp] theorem State.setCard_orders (k : CardId) (c : Card) : (s.setCard k c).orders = s.orders := rfl
@[simp] theorem State.setCard_agenda (k : CardId) (c : Card) : (s.setCard k c).agenda = s.agenda := rfl
@[simp] theorem State.setCard_freeIndex (k : CardId) (c : Card) : (s.setCard k c).freeIndex = s.freeIndex := rfl
@[simp] theorem State.setCard_pending (k : CardId) (c : Card) : (s.setCard k c).pending = s.pending := rfl

/-! ### State.setLink -/

@[simp] theorem State.setLink_time (l : Link) : (s.setLink l).time = s.time := rfl
@[simp] theorem State.setLink_link (l : Link) : (s.setLink l).link = l := rfl
@[simp] theorem State.setLink_steps (l : Link) : (s.setLink l).steps = s.steps := rfl
@[simp] theorem State.setLink_routeDefs (l : Link) : (s.setLink l).routeDefs = s.routeDefs := rfl
@[simp] theorem State.setLink_limits (l : Link) : (s.setLink l).limits = s.limits := rfl
@[simp] theorem State.setLink_cal (l : Link) : (s.setLink l).cal = s.cal := rfl
@[simp] theorem State.setLink_sites (l : Link) : (s.setLink l).sites = s.sites := rfl
@[simp] theorem State.setLink_leases (l : Link) : (s.setLink l).leases = s.leases := rfl
@[simp] theorem State.setLink_records (l : Link) : (s.setLink l).records = s.records := rfl
@[simp] theorem State.setLink_ports (l : Link) : (s.setLink l).ports = s.ports := rfl
@[simp] theorem State.setLink_routes (l : Link) : (s.setLink l).routes = s.routes := rfl
@[simp] theorem State.setLink_nodes (l : Link) : (s.setLink l).nodes = s.nodes := rfl
@[simp] theorem State.setLink_image (l : Link) : (s.setLink l).image = s.image := rfl
@[simp] theorem State.setLink_chain (l : Link) : (s.setLink l).chain = s.chain := rfl
@[simp] theorem State.setLink_wear (l : Link) : (s.setLink l).wear = s.wear := rfl
@[simp] theorem State.setLink_queue (l : Link) : (s.setLink l).queue = s.queue := rfl
@[simp] theorem State.setLink_lines (l : Link) : (s.setLink l).lines = s.lines := rfl
@[simp] theorem State.setLink_fixture (l : Link) : (s.setLink l).fixture = s.fixture := rfl
@[simp] theorem State.setLink_safe (l : Link) : (s.setLink l).safe = s.safe := rfl
@[simp] theorem State.setLink_orders (l : Link) : (s.setLink l).orders = s.orders := rfl
@[simp] theorem State.setLink_agenda (l : Link) : (s.setLink l).agenda = s.agenda := rfl
@[simp] theorem State.setLink_freeIndex (l : Link) : (s.setLink l).freeIndex = s.freeIndex := rfl
@[simp] theorem State.setLink_pending (l : Link) : (s.setLink l).pending = s.pending := rfl

/-! ### State.setFixture -/

@[simp] theorem State.setFixture_time (f : Fixture) : (s.setFixture f).time = s.time := rfl
@[simp] theorem State.setFixture_link (f : Fixture) : (s.setFixture f).link = s.link := rfl
@[simp] theorem State.setFixture_steps (f : Fixture) : (s.setFixture f).steps = s.steps := rfl
@[simp] theorem State.setFixture_routeDefs (f : Fixture) : (s.setFixture f).routeDefs = s.routeDefs := rfl
@[simp] theorem State.setFixture_limits (f : Fixture) : (s.setFixture f).limits = s.limits := rfl
@[simp] theorem State.setFixture_cal (f : Fixture) : (s.setFixture f).cal = s.cal := rfl
@[simp] theorem State.setFixture_sites (f : Fixture) : (s.setFixture f).sites = s.sites := rfl
@[simp] theorem State.setFixture_leases (f : Fixture) : (s.setFixture f).leases = s.leases := rfl
@[simp] theorem State.setFixture_records (f : Fixture) : (s.setFixture f).records = s.records := rfl
@[simp] theorem State.setFixture_ports (f : Fixture) : (s.setFixture f).ports = s.ports := rfl
@[simp] theorem State.setFixture_routes (f : Fixture) : (s.setFixture f).routes = s.routes := rfl
@[simp] theorem State.setFixture_nodes (f : Fixture) : (s.setFixture f).nodes = s.nodes := rfl
@[simp] theorem State.setFixture_image (f : Fixture) : (s.setFixture f).image = s.image := rfl
@[simp] theorem State.setFixture_chain (f : Fixture) : (s.setFixture f).chain = s.chain := rfl
@[simp] theorem State.setFixture_wear (f : Fixture) : (s.setFixture f).wear = s.wear := rfl
@[simp] theorem State.setFixture_queue (f : Fixture) : (s.setFixture f).queue = s.queue := rfl
@[simp] theorem State.setFixture_lines (f : Fixture) : (s.setFixture f).lines = s.lines := rfl
@[simp] theorem State.setFixture_fixture (f : Fixture) : (s.setFixture f).fixture = f := rfl
@[simp] theorem State.setFixture_safe (f : Fixture) : (s.setFixture f).safe = s.safe := rfl
@[simp] theorem State.setFixture_orders (f : Fixture) : (s.setFixture f).orders = s.orders := rfl
@[simp] theorem State.setFixture_agenda (f : Fixture) : (s.setFixture f).agenda = s.agenda := rfl
@[simp] theorem State.setFixture_freeIndex (f : Fixture) : (s.setFixture f).freeIndex = s.freeIndex := rfl
@[simp] theorem State.setFixture_pending (f : Fixture) : (s.setFixture f).pending = s.pending := rfl

/-! ### State.setLine -/

@[simp] theorem State.setLine_time (l : LineId) (x : InputLine) : (s.setLine l x).time = s.time := rfl
@[simp] theorem State.setLine_link (l : LineId) (x : InputLine) : (s.setLine l x).link = s.link := rfl
@[simp] theorem State.setLine_steps (l : LineId) (x : InputLine) : (s.setLine l x).steps = s.steps := rfl
@[simp] theorem State.setLine_routeDefs (l : LineId) (x : InputLine) : (s.setLine l x).routeDefs = s.routeDefs := rfl
@[simp] theorem State.setLine_limits (l : LineId) (x : InputLine) : (s.setLine l x).limits = s.limits := rfl
@[simp] theorem State.setLine_cal (l : LineId) (x : InputLine) : (s.setLine l x).cal = s.cal := rfl
@[simp] theorem State.setLine_sites (l : LineId) (x : InputLine) : (s.setLine l x).sites = s.sites := rfl
@[simp] theorem State.setLine_leases (l : LineId) (x : InputLine) : (s.setLine l x).leases = s.leases := rfl
@[simp] theorem State.setLine_records (l : LineId) (x : InputLine) : (s.setLine l x).records = s.records := rfl
@[simp] theorem State.setLine_ports (l : LineId) (x : InputLine) : (s.setLine l x).ports = s.ports := rfl
@[simp] theorem State.setLine_routes (l : LineId) (x : InputLine) : (s.setLine l x).routes = s.routes := rfl
@[simp] theorem State.setLine_nodes (l : LineId) (x : InputLine) : (s.setLine l x).nodes = s.nodes := rfl
@[simp] theorem State.setLine_image (l : LineId) (x : InputLine) : (s.setLine l x).image = s.image := rfl
@[simp] theorem State.setLine_chain (l : LineId) (x : InputLine) : (s.setLine l x).chain = s.chain := rfl
@[simp] theorem State.setLine_wear (l : LineId) (x : InputLine) : (s.setLine l x).wear = s.wear := rfl
@[simp] theorem State.setLine_queue (l : LineId) (x : InputLine) : (s.setLine l x).queue = s.queue := rfl
@[simp] theorem State.setLine_lines (l : LineId) (x : InputLine) : (s.setLine l x).lines = s.lines.set l x := rfl
@[simp] theorem State.setLine_fixture (l : LineId) (x : InputLine) : (s.setLine l x).fixture = s.fixture := rfl
@[simp] theorem State.setLine_safe (l : LineId) (x : InputLine) : (s.setLine l x).safe = s.safe := rfl
@[simp] theorem State.setLine_orders (l : LineId) (x : InputLine) : (s.setLine l x).orders = s.orders := rfl
@[simp] theorem State.setLine_agenda (l : LineId) (x : InputLine) : (s.setLine l x).agenda = s.agenda := rfl
@[simp] theorem State.setLine_freeIndex (l : LineId) (x : InputLine) : (s.setLine l x).freeIndex = s.freeIndex := rfl
@[simp] theorem State.setLine_pending (l : LineId) (x : InputLine) : (s.setLine l x).pending = s.pending := rfl

/-! ### State.setRoutes -/

@[simp] theorem State.setRoutes_time (t : Table LiveRoute) : (s.setRoutes t).time = s.time := rfl
@[simp] theorem State.setRoutes_link (t : Table LiveRoute) : (s.setRoutes t).link = s.link := rfl
@[simp] theorem State.setRoutes_steps (t : Table LiveRoute) : (s.setRoutes t).steps = s.steps := rfl
@[simp] theorem State.setRoutes_routeDefs (t : Table LiveRoute) : (s.setRoutes t).routeDefs = s.routeDefs := rfl
@[simp] theorem State.setRoutes_limits (t : Table LiveRoute) : (s.setRoutes t).limits = s.limits := rfl
@[simp] theorem State.setRoutes_cal (t : Table LiveRoute) : (s.setRoutes t).cal = s.cal := rfl
@[simp] theorem State.setRoutes_sites (t : Table LiveRoute) : (s.setRoutes t).sites = s.sites := rfl
@[simp] theorem State.setRoutes_leases (t : Table LiveRoute) : (s.setRoutes t).leases = s.leases := rfl
@[simp] theorem State.setRoutes_records (t : Table LiveRoute) : (s.setRoutes t).records = s.records := rfl
@[simp] theorem State.setRoutes_ports (t : Table LiveRoute) : (s.setRoutes t).ports = s.ports := rfl
@[simp] theorem State.setRoutes_routes (t : Table LiveRoute) : (s.setRoutes t).routes = t := rfl
@[simp] theorem State.setRoutes_nodes (t : Table LiveRoute) : (s.setRoutes t).nodes = s.nodes := rfl
@[simp] theorem State.setRoutes_image (t : Table LiveRoute) : (s.setRoutes t).image = s.image := rfl
@[simp] theorem State.setRoutes_chain (t : Table LiveRoute) : (s.setRoutes t).chain = s.chain := rfl
@[simp] theorem State.setRoutes_wear (t : Table LiveRoute) : (s.setRoutes t).wear = s.wear := rfl
@[simp] theorem State.setRoutes_queue (t : Table LiveRoute) : (s.setRoutes t).queue = s.queue := rfl
@[simp] theorem State.setRoutes_lines (t : Table LiveRoute) : (s.setRoutes t).lines = s.lines := rfl
@[simp] theorem State.setRoutes_fixture (t : Table LiveRoute) : (s.setRoutes t).fixture = s.fixture := rfl
@[simp] theorem State.setRoutes_safe (t : Table LiveRoute) : (s.setRoutes t).safe = s.safe := rfl
@[simp] theorem State.setRoutes_orders (t : Table LiveRoute) : (s.setRoutes t).orders = s.orders := rfl
@[simp] theorem State.setRoutes_agenda (t : Table LiveRoute) : (s.setRoutes t).agenda = s.agenda := rfl
@[simp] theorem State.setRoutes_freeIndex (t : Table LiveRoute) : (s.setRoutes t).freeIndex = s.freeIndex := rfl
@[simp] theorem State.setRoutes_pending (t : Table LiveRoute) : (s.setRoutes t).pending = s.pending := rfl

/-! ### Reading a part after another part was set -/

@[simp] theorem State.setPort_site (i : InstrId) (p : Port) (x' : SiteId) : (s.setPort i p).site x' = s.site x' := rfl
@[simp] theorem State.setLease_site (i : InstrId) (l : Lease) (x' : SiteId) : (s.setLease i l).site x' = s.site x' := rfl
@[simp] theorem State.setChain_site (c : Chain) (x' : SiteId) : (s.setChain c).site x' = s.site x' := rfl
@[simp] theorem State.setCard_site (k : CardId) (c : Card) (x' : SiteId) : (s.setCard k c).site x' = s.site x' := rfl
@[simp] theorem State.setLink_site (l : Link) (x' : SiteId) : (s.setLink l).site x' = s.site x' := rfl
@[simp] theorem State.setFixture_site (f : Fixture) (x' : SiteId) : (s.setFixture f).site x' = s.site x' := rfl
@[simp] theorem State.setLine_site (l : LineId) (x : InputLine) (x' : SiteId) : (s.setLine l x).site x' = s.site x' := rfl
@[simp] theorem State.setRoutes_site (t : Table LiveRoute) (x' : SiteId) : (s.setRoutes t).site x' = s.site x' := rfl
@[simp] theorem State.setSite_port (n : SiteId) (c : Site) (x' : InstrId) : (s.setSite n c).port x' = s.port x' := rfl
@[simp] theorem State.setLease_port (i : InstrId) (l : Lease) (x' : InstrId) : (s.setLease i l).port x' = s.port x' := rfl
@[simp] theorem State.setChain_port (c : Chain) (x' : InstrId) : (s.setChain c).port x' = s.port x' := rfl
@[simp] theorem State.setCard_port (k : CardId) (c : Card) (x' : InstrId) : (s.setCard k c).port x' = s.port x' := rfl
@[simp] theorem State.setLink_port (l : Link) (x' : InstrId) : (s.setLink l).port x' = s.port x' := rfl
@[simp] theorem State.setFixture_port (f : Fixture) (x' : InstrId) : (s.setFixture f).port x' = s.port x' := rfl
@[simp] theorem State.setLine_port (l : LineId) (x : InputLine) (x' : InstrId) : (s.setLine l x).port x' = s.port x' := rfl
@[simp] theorem State.setRoutes_port (t : Table LiveRoute) (x' : InstrId) : (s.setRoutes t).port x' = s.port x' := rfl
@[simp] theorem State.setSite_lease (n : SiteId) (c : Site) (x' : InstrId) : (s.setSite n c).lease x' = s.lease x' := rfl
@[simp] theorem State.setPort_lease (i : InstrId) (p : Port) (x' : InstrId) : (s.setPort i p).lease x' = s.lease x' := rfl
@[simp] theorem State.setChain_lease (c : Chain) (x' : InstrId) : (s.setChain c).lease x' = s.lease x' := rfl
@[simp] theorem State.setCard_lease (k : CardId) (c : Card) (x' : InstrId) : (s.setCard k c).lease x' = s.lease x' := rfl
@[simp] theorem State.setLink_lease (l : Link) (x' : InstrId) : (s.setLink l).lease x' = s.lease x' := rfl
@[simp] theorem State.setFixture_lease (f : Fixture) (x' : InstrId) : (s.setFixture f).lease x' = s.lease x' := rfl
@[simp] theorem State.setLine_lease (l : LineId) (x : InputLine) (x' : InstrId) : (s.setLine l x).lease x' = s.lease x' := rfl
@[simp] theorem State.setRoutes_lease (t : Table LiveRoute) (x' : InstrId) : (s.setRoutes t).lease x' = s.lease x' := rfl
@[simp] theorem State.setSite_record (n : SiteId) (c : Site) (x' : InstrId) : (s.setSite n c).record x' = s.record x' := rfl
@[simp] theorem State.setPort_record (i : InstrId) (p : Port) (x' : InstrId) : (s.setPort i p).record x' = s.record x' := rfl
@[simp] theorem State.setLease_record (i : InstrId) (l : Lease) (x' : InstrId) : (s.setLease i l).record x' = s.record x' := rfl
@[simp] theorem State.setChain_record (c : Chain) (x' : InstrId) : (s.setChain c).record x' = s.record x' := rfl
@[simp] theorem State.setCard_record (k : CardId) (c : Card) (x' : InstrId) : (s.setCard k c).record x' = s.record x' := rfl
@[simp] theorem State.setLink_record (l : Link) (x' : InstrId) : (s.setLink l).record x' = s.record x' := rfl
@[simp] theorem State.setFixture_record (f : Fixture) (x' : InstrId) : (s.setFixture f).record x' = s.record x' := rfl
@[simp] theorem State.setLine_record (l : LineId) (x : InputLine) (x' : InstrId) : (s.setLine l x).record x' = s.record x' := rfl
@[simp] theorem State.setRoutes_record (t : Table LiveRoute) (x' : InstrId) : (s.setRoutes t).record x' = s.record x' := rfl
@[simp] theorem State.setSite_line (n : SiteId) (c : Site) (x' : LineId) : (s.setSite n c).line x' = s.line x' := rfl
@[simp] theorem State.setPort_line (i : InstrId) (p : Port) (x' : LineId) : (s.setPort i p).line x' = s.line x' := rfl
@[simp] theorem State.setLease_line (i : InstrId) (l : Lease) (x' : LineId) : (s.setLease i l).line x' = s.line x' := rfl
@[simp] theorem State.setChain_line (c : Chain) (x' : LineId) : (s.setChain c).line x' = s.line x' := rfl
@[simp] theorem State.setCard_line (k : CardId) (c : Card) (x' : LineId) : (s.setCard k c).line x' = s.line x' := rfl
@[simp] theorem State.setLink_line (l : Link) (x' : LineId) : (s.setLink l).line x' = s.line x' := rfl
@[simp] theorem State.setFixture_line (f : Fixture) (x' : LineId) : (s.setFixture f).line x' = s.line x' := rfl
@[simp] theorem State.setRoutes_line (t : Table LiveRoute) (x' : LineId) : (s.setRoutes t).line x' = s.line x' := rfl
@[simp] theorem State.setSite_card (n : SiteId) (c : Site) (x' : CardId) : (s.setSite n c).card x' = s.card x' := rfl
@[simp] theorem State.setPort_card (i : InstrId) (p : Port) (x' : CardId) : (s.setPort i p).card x' = s.card x' := rfl
@[simp] theorem State.setLease_card (i : InstrId) (l : Lease) (x' : CardId) : (s.setLease i l).card x' = s.card x' := rfl
@[simp] theorem State.setLink_card (l : Link) (x' : CardId) : (s.setLink l).card x' = s.card x' := rfl
@[simp] theorem State.setFixture_card (f : Fixture) (x' : CardId) : (s.setFixture f).card x' = s.card x' := rfl
@[simp] theorem State.setLine_card (l : LineId) (x : InputLine) (x' : CardId) : (s.setLine l x).card x' = s.card x' := rfl
@[simp] theorem State.setRoutes_card (t : Table LiveRoute) (x' : CardId) : (s.setRoutes t).card x' = s.card x' := rfl
@[simp] theorem State.setSite_route (n : SiteId) (c : Site) (x' : EntryId) : (s.setSite n c).route x' = s.route x' := rfl
@[simp] theorem State.setPort_route (i : InstrId) (p : Port) (x' : EntryId) : (s.setPort i p).route x' = s.route x' := rfl
@[simp] theorem State.setLease_route (i : InstrId) (l : Lease) (x' : EntryId) : (s.setLease i l).route x' = s.route x' := rfl
@[simp] theorem State.setChain_route (c : Chain) (x' : EntryId) : (s.setChain c).route x' = s.route x' := rfl
@[simp] theorem State.setCard_route (k : CardId) (c : Card) (x' : EntryId) : (s.setCard k c).route x' = s.route x' := rfl
@[simp] theorem State.setLink_route (l : Link) (x' : EntryId) : (s.setLink l).route x' = s.route x' := rfl
@[simp] theorem State.setFixture_route (f : Fixture) (x' : EntryId) : (s.setFixture f).route x' = s.route x' := rfl
@[simp] theorem State.setLine_route (l : LineId) (x : InputLine) (x' : EntryId) : (s.setLine l x).route x' = s.route x' := rfl

/-! ### Reading a part back -/

@[simp] theorem State.setSite_site_same (n : SiteId) (c : Site) : (s.setSite n c).site n = c := by
  simp [State.setSite, State.site]

theorem State.setSite_site_other (n : SiteId) (c : Site) (o : SiteId) (h : n ≠ o) : (s.setSite n c).site o = s.site o := by
  have h' : n.val ≠ o.val := fun e => h (Fin.ext e)
  simp [State.setSite, State.site, h']

@[simp] theorem State.setPort_port_same (i : InstrId) (p : Port) : (s.setPort i p).port i = p := by
  simp [State.setPort, State.port]

theorem State.setPort_port_other (i : InstrId) (p : Port) (o : InstrId) (h : i ≠ o) : (s.setPort i p).port o = s.port o := by
  have h' : i.val ≠ o.val := fun e => h (Fin.ext e)
  simp [State.setPort, State.port, h']

@[simp] theorem State.setLease_lease_same (i : InstrId) (l : Lease) : (s.setLease i l).lease i = l := by
  simp [State.setLease, State.lease]

theorem State.setLease_lease_other (i : InstrId) (l : Lease) (o : InstrId) (h : i ≠ o) : (s.setLease i l).lease o = s.lease o := by
  have h' : i.val ≠ o.val := fun e => h (Fin.ext e)
  simp [State.setLease, State.lease, h']

@[simp] theorem State.setLine_line_same (l : LineId) (x : InputLine) : (s.setLine l x).line l = x := by
  simp [State.setLine, State.line]

theorem State.setLine_line_other (l : LineId) (x : InputLine) (o : LineId) (h : l ≠ o) : (s.setLine l x).line o = s.line o := by
  have h' : l.val ≠ o.val := fun e => h (Fin.ext e)
  simp [State.setLine, State.line, h']

@[simp] theorem State.setCard_card_same (k : CardId) (c : Card) : (s.setCard k c).card k = c := by
  simp [State.setCard, State.card, State.setChain]

theorem State.setCard_card_other (k : CardId) (c : Card) (o : CardId) (h : k ≠ o) : (s.setCard k c).card o = s.card o := by
  have h' : k.val ≠ o.val := fun e => h (Fin.ext e)
  simp [State.setCard, State.card, State.setChain, h']

@[simp] theorem State.setSite_own (n : SiteId) : s.setSite n (s.site n) = s := by
  simp [State.setSite, State.site]

@[simp] theorem State.setPort_own (i : InstrId) : s.setPort i (s.port i) = s := by
  simp [State.setPort, State.port]

@[simp] theorem State.setLease_own (i : InstrId) : s.setLease i (s.lease i) = s := by
  simp [State.setLease, State.lease]

@[simp] theorem State.setLine_own (l : LineId) : s.setLine l (s.line l) = s := by
  simp [State.setLine, State.line]

@[simp] theorem State.setLink_own : s.setLink s.link = s := rfl

@[simp] theorem State.setFixture_own : s.setFixture s.fixture = s := rfl

@[simp] theorem State.setChain_own : s.setChain s.chain = s := rfl

end Sys2Proof.Machine
end

