-- ==== Sys2Proof/Laws/Link.lean ====
section
/-! SUPPORT. What the operations of the host link can do, each said once: sending, notices, safe causes, the taking of a
request. -/

namespace Sys2Proof.Machine

variable (s : State)

/-! ### Sending and counting -/

theorem send_eq (f : Frame) : send f s = s.setLink { s.link with tx := s.link.tx ++ [f] } := rfl

theorem countLink_eq (k : LinkCounter) :
    countLink k s = s.setLink { s.link with counters := s.link.counters.bump k } := rfl

/-- A notice changes the link alone: it enters the transmit queue, or it is counted as lost (R195). -/
theorem notice_cases (kind : Byte) (body : List Byte) :
    (s.link.tx.length + 2 ≤ 16 ∧ notice kind body s = s.setLink { s.link with tx := s.link.tx ++ [⟨kind, 0, body⟩] }) ∨
    (16 < s.link.tx.length + 2 ∧
      notice kind body s = s.setLink { s.link with counters := s.link.counters.bump .noticeLost }) := by
  unfold notice
  split
  · exact .inl ⟨‹_›, rfl⟩
  · exact .inr ⟨by omega, rfl⟩

theorem notice_enters (kind : Byte) (body : List Byte) (h : s.link.tx.length + 2 ≤ 16) :
    notice kind body s = send ⟨kind, 0, body⟩ s := by simp [notice, h]

theorem notice_lost (kind : Byte) (body : List Byte) (h : ¬ s.link.tx.length + 2 ≤ 16) :
    notice kind body s = countLink .noticeLost s := by simp [notice, h]

/-- Every field of State but the link is as it was after a notice. -/
theorem notice_shape (kind : Byte) (body : List Byte) :
    ∃ l : Link, notice kind body s = s.setLink l ∧ l.rx = s.link.rx ∧ l.rxBytes = s.link.rxBytes ∧
      l.rxLast = s.link.rxLast ∧ l.inProgress = s.link.inProgress ∧ l.watchdogs = s.link.watchdogs ∧
      l.limit = s.link.limit ∧ l.watchdog = s.link.watchdog ∧ l.rateCode = s.link.rateCode ∧
      (s.link.tx.length < 16 → l.tx.length < 16) := by
  rcases notice_cases s kind body with ⟨h, e⟩ | ⟨h, e⟩
  · exact ⟨_, e, rfl, rfl, rfl, rfl, rfl, rfl, rfl, rfl, fun _ => by simp; omega⟩
  · exact ⟨_, e, rfl, rfl, rfl, rfl, rfl, rfl, rfl, rfl, fun h' => h'⟩

/-! ### Safe causes (R186, R187) -/

theorem safeRemove_absent (c : SafeCause) (h : s.safe.has c = false) : safeRemove c s = s := by simp [safeRemove, h]

theorem safeAdd_present (c : SafeCause) (h : s.safe.has c = true) : safeAdd c s = s := by simp [safeAdd, h]

/-- A removal changes the cause set and the link alone. -/
theorem safeRemove_shape (c : SafeCause) :
    ∃ (l : Link) (k : SafeSet), safeRemove c s = { s with link := l, safe := k } ∧ l.rx = s.link.rx ∧
      l.rxBytes = s.link.rxBytes ∧ l.inProgress = s.link.inProgress ∧ (s.link.tx.length < 16 → l.tx.length < 16) := by
  unfold safeRemove
  split
  · obtain ⟨l, e, h1, h2, -, h4, -, -, -, -, h9⟩ :=
      notice_shape { s with safe := s.safe.assign false c } 0x89
        (codeByte .safeCauses (safeSetCode (s.safe.assign false c)) ++ flagByte (s.safe.assign false c).holds ++
          codeByte .safeCause (safeCauseCode c) ++ codeByte .safeDirection 1 ++
          timeBytes { s with safe := s.safe.assign false c })
    refine ⟨l, s.safe.assign false c, ?_, h1, h2, h4, h9⟩
    simpa [safeNotice, State.setLink] using e
  · exact ⟨s.link, s.safe, rfl, rfl, rfl, rfl, id⟩

/-! ### The taking of a request (R193, R194) -/

theorem popFrame_eq_self (h : s.link.rx = []) : popFrame s = s := by
  unfold popFrame
  rw [h, List.tail_nil, ← h]
  rfl

/-- A request that the link takes is handled in the state `taken` gives. -/
theorem takeRequest_takes (kind tag : Byte) (body : List Byte) (handler : State → State)
    (h : Takes ⟨kind, tag, body⟩ s) :
    takeRequest kind tag body handler s = handler (taken ⟨kind, tag, body⟩ s) := by
  obtain ⟨hhead, hprog, hroom⟩ := h
  by_cases hh : s.link.rx.head? = some ⟨kind, tag, body⟩
  · simp [takeRequest, taken, hh, Link.canTake, hprog, hroom]
  · obtain ⟨hrx, hhunt, hlen⟩ := hhead.resolve_left hh
    obtain ⟨l, k, e, h1, h2, h4, h9⟩ := safeRemove_shape (restartWatchdog s) .link
    have r1 : (restartWatchdog s).link.rx = [] := hrx
    have r4 : (restartWatchdog s).link.inProgress = none := hprog
    have r9 : (restartWatchdog s).link.tx.length < 16 := hroom
    rw [r1] at h1
    rw [r4] at h4
    have ht := h9 r9
    have hd : deliver ⟨kind, tag, body⟩ s =
        (safeRemove .link (restartWatchdog s)).setLink { l with rx := [⟨kind, tag, body⟩] } := by
      simp only [deliver, hhunt, hlen, true_and, if_true, frameArrival, e, State.setLink]
      simp [h1]
    have hp : popFrame (deliver ⟨kind, tag, body⟩ s) = safeRemove .link (restartWatchdog s) := by
      rw [hd, e]
      simp only [popFrame, State.setLink, List.tail_cons]
      rw [← h1]
    simp only [takeRequest, taken, hh, if_false]
    rw [if_pos, hp]
    rw [hd]
    simp [Link.canTake, h4, ht]

/-- A request whose body has a length that its kind does not allow is answered BAD_LENGTH. -/
theorem withLength_refused (kind tag : Byte) (handler : State → State) :
    withLength kind tag false handler s = send ⟨kind + 0x40, tag, [0x02]⟩ s := rfl

theorem withLength_allowed (kind tag : Byte) (handler : State → State) : withLength kind tag true handler s = handler s :=
  rfl

/-- A reply is a frame of the request's KIND plus 0x40 and its TAG, the status first (R191). -/
theorem reply_eq (kind tag : Byte) (status : Status) (fields : List Byte) :
    reply kind tag status fields s = send ⟨kind + 0x40, tag, status.code :: fields⟩ s := rfl

theorem plainRequest_takes (kind tag : Byte) (handler : State → State) (h : Takes ⟨kind, tag, []⟩ s) :
    plainRequest kind tag [] handler s = handler (taken ⟨kind, tag, []⟩ s) := by
  simp [plainRequest, takeRequest_takes s kind tag [] _ h, withLength]

/-- The link at a soft reset: all is cleared but the limit, the rate and the receiver's last reading; the watchdog restarts
under its limit (R202). -/
theorem resetLink_eq : resetLink s = { s with link := { s.link with
    rxBytes := [], rx := [], tx := [], inProgress := none, counters := .clear, watchdogs := .clear
    watchdog := limitTimer s.time s.link.limit.toNat } } := rfl

@[simp] theorem clearLinkGroups_tx : (clearLinkGroups s).link.tx = s.link.tx := rfl
@[simp] theorem clearLinkGroups_counters : (clearLinkGroups s).link.counters = .clear := rfl
@[simp] theorem clearLinkGroups_watchdogs : (clearLinkGroups s).link.watchdogs = .clear := rfl

end Sys2Proof.Machine
end

