-- ==== Sys2Proof/Laws/PerInstr.lean ====
section
/-! SUPPORT. One statement about every command as syntax: a frame of the host that a command carries is filed by the request
catalogue under a command that carries the same frame, so the catalogue loses nothing of it (R194). -/

namespace Sys2Proof
open Sys2Proof.Machine

theorem requestFrame_statusRow (tag : Byte) (body : List Byte) :
    requestFrame (statusRow tag body) = some ⟨0x02, tag, body⟩ := by
  unfold statusRow; split <;> rfl

theorem requestFrame_countersClearRow (tag : Byte) (body : List Byte) :
    requestFrame (countersClearRow tag body) = some ⟨0x04, tag, body⟩ := by
  unfold countersClearRow; split <;> rfl

theorem requestFrame_cardSetRow (tag : Byte) (body : List Byte) :
    requestFrame (cardSetRow tag body) = some ⟨0x10, tag, body⟩ := by
  unfold cardSetRow; split <;> rfl

theorem requestFrame_requestCommand (f : Frame) : requestFrame (requestCommand f) = some f := by
  obtain ⟨kind, tag, body⟩ := f
  unfold requestCommand
  split
  all_goals rename_i h
  all_goals first
    | rfl
    | (have hk : kind = BitVec.ofNat 8 kind.toNat := by simp
       rw [h] at hk
       first
         | exact (congrArg (fun k => some (Frame.mk k tag body)) hk).symm
         | exact (requestFrame_statusRow tag body).trans (by rw [hk]; rfl)
         | exact (requestFrame_countersClearRow tag body).trans (by rw [hk]; rfl)
         | exact (requestFrame_cardSetRow tag body).trans (by rw [hk]; rfl))
/-- The frame that a command carries is the frame of the command that the catalogue files it under. -/
def Laws.Refile.Statement (i : Instr) : Prop := ∀ f, requestFrame i = some f → requestFrame (requestCommand f) = some f

theorem Laws.Refile.powerOnReset (rate1 rate0 : Bool) (lines : BitVec 17) (rdy : BitVec 6) : Laws.Refile.Statement (.powerOnReset rate1 rate0 lines rdy) :=
  fun f _ => requestFrame_requestCommand f

theorem Laws.Refile.unknownKindFrame (kind tag : Byte) (body : List Byte) : Laws.Refile.Statement (.unknownKindFrame kind tag body) :=
  fun f _ => requestFrame_requestCommand f

theorem Laws.Refile.ident (tag : Byte) (body : List Byte) : Laws.Refile.Statement (.ident tag body) :=
  fun f _ => requestFrame_requestCommand f

theorem Laws.Refile.statusSummary (tag : Byte) (body : List Byte) : Laws.Refile.Statement (.statusSummary tag body) :=
  fun f _ => requestFrame_requestCommand f

theorem Laws.Refile.statusSites (tag : Byte) (body : List Byte) : Laws.Refile.Statement (.statusSites tag body) :=
  fun f _ => requestFrame_requestCommand f

theorem Laws.Refile.statusInstruments (tag : Byte) (body : List Byte) : Laws.Refile.Statement (.statusInstruments tag body) :=
  fun f _ => requestFrame_requestCommand f

theorem Laws.Refile.statusRoutes (tag : Byte) (body : List Byte) : Laws.Refile.Statement (.statusRoutes tag body) :=
  fun f _ => requestFrame_requestCommand f

theorem Laws.Refile.statusCards (tag : Byte) (body : List Byte) : Laws.Refile.Statement (.statusCards tag body) :=
  fun f _ => requestFrame_requestCommand f

theorem Laws.Refile.statusInputs (tag : Byte) (body : List Byte) : Laws.Refile.Statement (.statusInputs tag body) :=
  fun f _ => requestFrame_requestCommand f

theorem Laws.Refile.countersRead (tag : Byte) (body : List Byte) : Laws.Refile.Statement (.countersRead tag body) :=
  fun f _ => requestFrame_requestCommand f

theorem Laws.Refile.countersClearLink (tag : Byte) (body : List Byte) : Laws.Refile.Statement (.countersClearLink tag body) :=
  fun f _ => requestFrame_requestCommand f

theorem Laws.Refile.countersClearWatchdog (tag : Byte) (body : List Byte) : Laws.Refile.Statement (.countersClearWatchdog tag body) :=
  fun f _ => requestFrame_requestCommand f

theorem Laws.Refile.countersClearPort (tag : Byte) (body : List Byte) : Laws.Refile.Statement (.countersClearPort tag body) :=
  fun f _ => requestFrame_requestCommand f

theorem Laws.Refile.countersClearCard (tag : Byte) (body : List Byte) : Laws.Refile.Statement (.countersClearCard tag body) :=
  fun f _ => requestFrame_requestCommand f

theorem Laws.Refile.softReset (tag : Byte) (body : List Byte) : Laws.Refile.Statement (.softReset tag body) :=
  fun f _ => requestFrame_requestCommand f

theorem Laws.Refile.softResetEffect : Laws.Refile.Statement (.softResetEffect) :=
  fun f _ => requestFrame_requestCommand f

theorem Laws.Refile.watchdogSet (tag : Byte) (body : List Byte) : Laws.Refile.Statement (.watchdogSet tag body) :=
  fun f _ => requestFrame_requestCommand f

theorem Laws.Refile.stepsLoad (tag : Byte) (body : List Byte) : Laws.Refile.Statement (.stepsLoad tag body) :=
  fun f _ => requestFrame_requestCommand f

theorem Laws.Refile.stepsRead (tag : Byte) (body : List Byte) : Laws.Refile.Statement (.stepsRead tag body) :=
  fun f _ => requestFrame_requestCommand f

theorem Laws.Refile.routedefLoad (tag : Byte) (body : List Byte) : Laws.Refile.Statement (.routedefLoad tag body) :=
  fun f _ => requestFrame_requestCommand f

theorem Laws.Refile.limitsLoad (tag : Byte) (body : List Byte) : Laws.Refile.Statement (.limitsLoad tag body) :=
  fun f _ => requestFrame_requestCommand f

theorem Laws.Refile.calSet (tag : Byte) (body : List Byte) : Laws.Refile.Statement (.calSet tag body) :=
  fun f _ => requestFrame_requestCommand f

theorem Laws.Refile.calRead (tag : Byte) (body : List Byte) : Laws.Refile.Statement (.calRead tag body) :=
  fun f _ => requestFrame_requestCommand f

theorem Laws.Refile.instrSet (tag : Byte) (body : List Byte) : Laws.Refile.Statement (.instrSet tag body) :=
  fun f _ => requestFrame_requestCommand f

theorem Laws.Refile.cardSetCard (tag : Byte) (body : List Byte) : Laws.Refile.Statement (.cardSetCard tag body) :=
  fun f _ => requestFrame_requestCommand f

theorem Laws.Refile.cardSetChain (tag : Byte) (body : List Byte) : Laws.Refile.Statement (.cardSetChain tag body) :=
  fun f _ => requestFrame_requestCommand f

theorem Laws.Refile.cardReset (tag : Byte) (body : List Byte) : Laws.Refile.Statement (.cardReset tag body) :=
  fun f _ => requestFrame_requestCommand f

theorem Laws.Refile.wearRead (tag : Byte) (body : List Byte) : Laws.Refile.Statement (.wearRead tag body) :=
  fun f _ => requestFrame_requestCommand f

theorem Laws.Refile.wearLoad (tag : Byte) (body : List Byte) : Laws.Refile.Statement (.wearLoad tag body) :=
  fun f _ => requestFrame_requestCommand f

theorem Laws.Refile.siteSet (tag : Byte) (body : List Byte) : Laws.Refile.Statement (.siteSet tag body) :=
  fun f _ => requestFrame_requestCommand f

theorem Laws.Refile.start (tag : Byte) (body : List Byte) : Laws.Refile.Statement (.start tag body) :=
  fun f _ => requestFrame_requestCommand f

theorem Laws.Refile.abort (tag : Byte) (body : List Byte) : Laws.Refile.Statement (.abort tag body) :=
  fun f _ => requestFrame_requestCommand f

theorem Laws.Refile.manual (tag : Byte) (body : List Byte) : Laws.Refile.Statement (.manual tag body) :=
  fun f _ => requestFrame_requestCommand f

theorem Laws.Refile.direct (tag : Byte) (body : List Byte) : Laws.Refile.Statement (.direct tag body) :=
  fun f _ => requestFrame_requestCommand f

theorem Laws.Refile.siteClear (tag : Byte) (body : List Byte) : Laws.Refile.Statement (.siteClear tag body) :=
  fun f _ => requestFrame_requestCommand f

theorem Laws.Refile.varSet (tag : Byte) (body : List Byte) : Laws.Refile.Statement (.varSet tag body) :=
  fun f _ => requestFrame_requestCommand f

theorem Laws.Refile.varRead (tag : Byte) (body : List Byte) : Laws.Refile.Statement (.varRead tag body) :=
  fun f _ => requestFrame_requestCommand f

theorem Laws.Refile.flagRaise (tag : Byte) (body : List Byte) : Laws.Refile.Statement (.flagRaise tag body) :=
  fun f _ => requestFrame_requestCommand f

theorem Laws.Refile.flagClear (tag : Byte) (body : List Byte) : Laws.Refile.Statement (.flagClear tag body) :=
  fun f _ => requestFrame_requestCommand f

theorem Laws.Refile.fetch (tag : Byte) (body : List Byte) : Laws.Refile.Statement (.fetch tag body) :=
  fun f _ => requestFrame_requestCommand f

theorem Laws.Refile.fixtureRead (tag : Byte) (body : List Byte) : Laws.Refile.Statement (.fixtureRead tag body) :=
  fun f _ => requestFrame_requestCommand f

theorem Laws.Refile.fixtureDefine (tag : Byte) (body : List Byte) : Laws.Refile.Statement (.fixtureDefine tag body) :=
  fun f _ => requestFrame_requestCommand f

theorem Laws.Refile.fixtureReload (tag : Byte) (body : List Byte) : Laws.Refile.Statement (.fixtureReload tag body) :=
  fun f _ => requestFrame_requestCommand f

theorem Laws.Refile.fixmemTake (tag : Byte) (body : List Byte) : Laws.Refile.Statement (.fixmemTake tag body) :=
  fun f _ => requestFrame_requestCommand f

theorem Laws.Refile.fixmemGive (tag : Byte) (body : List Byte) : Laws.Refile.Statement (.fixmemGive tag body) :=
  fun f _ => requestFrame_requestCommand f

theorem Laws.Refile.fixmemRead (tag : Byte) (body : List Byte) : Laws.Refile.Statement (.fixmemRead tag body) :=
  fun f _ => requestFrame_requestCommand f

theorem Laws.Refile.fixmemWrite (tag : Byte) (body : List Byte) : Laws.Refile.Statement (.fixmemWrite tag body) :=
  fun f _ => requestFrame_requestCommand f

theorem Laws.Refile.inputsSet (tag : Byte) (body : List Byte) : Laws.Refile.Statement (.inputsSet tag body) :=
  fun f _ => requestFrame_requestCommand f

theorem Laws.Refile.safeEnter (tag : Byte) (body : List Byte) : Laws.Refile.Statement (.safeEnter tag body) :=
  fun f _ => requestFrame_requestCommand f

theorem Laws.Refile.safeLeave (tag : Byte) (body : List Byte) : Laws.Refile.Statement (.safeLeave tag body) :=
  fun f _ => requestFrame_requestCommand f

theorem Laws.Refile.goodFrameArrival (bytes : List Byte) : Laws.Refile.Statement (.goodFrameArrival bytes) :=
  fun f _ => requestFrame_requestCommand f

theorem Laws.Refile.frameLengthDrop (bytes : List Byte) : Laws.Refile.Statement (.frameLengthDrop bytes) :=
  fun f _ => requestFrame_requestCommand f

theorem Laws.Refile.fragmentGapExpiry : Laws.Refile.Statement (.fragmentGapExpiry) :=
  fun f _ => requestFrame_requestCommand f

theorem Laws.Refile.frameSent : Laws.Refile.Statement (.frameSent) :=
  fun f _ => requestFrame_requestCommand f

theorem Laws.Refile.linkWatchdogExpiry : Laws.Refile.Statement (.linkWatchdogExpiry) :=
  fun f _ => requestFrame_requestCommand f

theorem Laws.Refile.safeOrder (site : SiteId) : Laws.Refile.Statement (.safeOrder site) :=
  fun f _ => requestFrame_requestCommand f

theorem Laws.Refile.delayExpiry (site : SiteId) : Laws.Refile.Statement (.delayExpiry site) :=
  fun f _ => requestFrame_requestCommand f

theorem Laws.Refile.waitFlagTimeout (site : SiteId) : Laws.Refile.Statement (.waitFlagTimeout site) :=
  fun f _ => requestFrame_requestCommand f

theorem Laws.Refile.stepWatchdogExpiry (site : SiteId) : Laws.Refile.Statement (.stepWatchdogExpiry site) :=
  fun f _ => requestFrame_requestCommand f

theorem Laws.Refile.quietOutcome (port : InstrId) : Laws.Refile.Statement (.quietOutcome port) :=
  fun f _ => requestFrame_requestCommand f

theorem Laws.Refile.grantEvent (site : SiteId) (inst : InstrId) : Laws.Refile.Statement (.grantEvent site inst) :=
  fun f _ => requestFrame_requestCommand f

theorem Laws.Refile.makeTimerExpiry (entry : EntryId) : Laws.Refile.Statement (.makeTimerExpiry entry) :=
  fun f _ => requestFrame_requestCommand f

theorem Laws.Refile.releaseTimerExpiry (entry : EntryId) : Laws.Refile.Statement (.releaseTimerExpiry entry) :=
  fun f _ => requestFrame_requestCommand f

theorem Laws.Refile.discoveryEnd (answers : Vector (Option CardAnswer) 16) : Laws.Refile.Statement (.discoveryEnd answers) :=
  fun f _ => requestFrame_requestCommand f

theorem Laws.Refile.writeFrameSent : Laws.Refile.Statement (.writeFrameSent) :=
  fun f _ => requestFrame_requestCommand f

theorem Laws.Refile.latch : Laws.Refile.Statement (.latch) :=
  fun f _ => requestFrame_requestCommand f

theorem Laws.Refile.readFrameAnswer (answer : Option CardAnswer) : Laws.Refile.Statement (.readFrameAnswer answer) :=
  fun f _ => requestFrame_requestCommand f

theorem Laws.Refile.refreshExpiry : Laws.Refile.Statement (.refreshExpiry) :=
  fun f _ => requestFrame_requestCommand f

theorem Laws.Refile.portAck (port : InstrId) (seq : Byte) (body : List Byte) : Laws.Refile.Statement (.portAck port seq body) :=
  fun f _ => requestFrame_requestCommand f

theorem Laws.Refile.portNak (port : InstrId) (seq : Byte) (body : List Byte) : Laws.Refile.Statement (.portNak port seq body) :=
  fun f _ => requestFrame_requestCommand f

theorem Laws.Refile.portValue (port : InstrId) (seq : Byte) (body : List Byte) : Laws.Refile.Statement (.portValue port seq body) :=
  fun f _ => requestFrame_requestCommand f

theorem Laws.Refile.portIdent (port : InstrId) (seq : Byte) (body : List Byte) : Laws.Refile.Statement (.portIdent port seq body) :=
  fun f _ => requestFrame_requestCommand f

theorem Laws.Refile.portBadChecksum (port : InstrId) (bytes : List Byte) : Laws.Refile.Statement (.portBadChecksum port bytes) :=
  fun f _ => requestFrame_requestCommand f

theorem Laws.Refile.responseTimeout (port : InstrId) : Laws.Refile.Statement (.responseTimeout port) :=
  fun f _ => requestFrame_requestCommand f

theorem Laws.Refile.cancelSent (port : InstrId) : Laws.Refile.Statement (.cancelSent port) :=
  fun f _ => requestFrame_requestCommand f

theorem Laws.Refile.probeTimerExpiry (port : InstrId) : Laws.Refile.Statement (.probeTimerExpiry port) :=
  fun f _ => requestFrame_requestCommand f

theorem Laws.Refile.rdyRawChange (port : InstrId) (level : Bool) : Laws.Refile.Statement (.rdyRawChange port level) :=
  fun f _ => requestFrame_requestCommand f

theorem Laws.Refile.rdyFilteredChange (port : InstrId) : Laws.Refile.Statement (.rdyFilteredChange port) :=
  fun f _ => requestFrame_requestCommand f

theorem Laws.Refile.triggerPulseEnd (port : InstrId) : Laws.Refile.Statement (.triggerPulseEnd port) :=
  fun f _ => requestFrame_requestCommand f

theorem Laws.Refile.triggerSpacing (port : InstrId) : Laws.Refile.Statement (.triggerSpacing port) :=
  fun f _ => requestFrame_requestCommand f

theorem Laws.Refile.inputRawChange (line : LineId) (level : Bool) : Laws.Refile.Statement (.inputRawChange line level) :=
  fun f _ => requestFrame_requestCommand f

theorem Laws.Refile.seatChange (site : SiteId) : Laws.Refile.Statement (.seatChange site) :=
  fun f _ => requestFrame_requestCommand f

theorem Laws.Refile.startChange (site : SiteId) : Laws.Refile.Statement (.startChange site) :=
  fun f _ => requestFrame_requestCommand f

theorem Laws.Refile.lidOpen : Laws.Refile.Statement (.lidOpen) :=
  fun f _ => requestFrame_requestCommand f

theorem Laws.Refile.lidClose : Laws.Refile.Statement (.lidClose) :=
  fun f _ => requestFrame_requestCommand f

theorem Laws.Refile.loadHeaderDone (answer : MemoryAnswer) : Laws.Refile.Statement (.loadHeaderDone answer) :=
  fun f _ => requestFrame_requestCommand f

theorem Laws.Refile.loadBodyDone (answer : MemoryAnswer) : Laws.Refile.Statement (.loadBodyDone answer) :=
  fun f _ => requestFrame_requestCommand f

theorem Laws.Refile.fixmemReadDone (answer : MemoryAnswer) : Laws.Refile.Statement (.fixmemReadDone answer) :=
  fun f _ => requestFrame_requestCommand f

theorem Laws.Refile.fixmemWriteDone (refused : Option Nat) : Laws.Refile.Statement (.fixmemWriteDone refused) :=
  fun f _ => requestFrame_requestCommand f

theorem Laws.Refile.fixmemWritePoll (ack : Bool) : Laws.Refile.Statement (.fixmemWritePoll ack) :=
  fun f _ => requestFrame_requestCommand f

theorem Laws.Refile.portUnknownKindMessage (port : InstrId) (kind seq : Byte) (body : List Byte) : Laws.Refile.Statement (.portUnknownKindMessage port kind seq body) :=
  fun f _ => requestFrame_requestCommand f

end Sys2Proof
end

