-- ==== Sys2Proof/Laws/Steps.lean ====
section
/-! SUPPORT. What the operations of the runners can do, each said once, and the inductions over the agenda, the space list and
the bytes of a line, packaged: what each single event keeps, the whole keeps. -/

namespace Sys2Proof.Machine

variable (s : State)

/-! ### The agenda -/

theorem runAgenda_nil (fuel : Nat) (h : s.agenda = []) : runAgenda fuel s = s := by
  cases fuel with
  | zero => rfl
  | succ n => simp [runAgenda, h]

/-- With nothing selected, nothing is taken. -/
theorem settle_nil (h : s.agenda = []) : settle s = s := runAgenda_nil s _ h

theorem runAgenda_cons (fuel : Nat) (n : SiteId) (t : Todo) (rest : List (SiteId × Todo))
    (h : s.agenda = (n, t) :: rest) :
    runAgenda (fuel + 1) s = runAgenda fuel (runTodo n t { s with agenda := rest }) := by
  simp [runAgenda, h]

/-- The first step selected is taken, then the rest. -/
theorem settle_cons (n : SiteId) (t : Todo) (rest : List (SiteId × Todo)) (h : s.agenda = (n, t) :: rest) :
    settle s = runAgenda (Config.stepsPerEvent - 1) (runTodo n t { s with agenda := rest }) :=
  runAgenda_cons s _ n t rest h

/-- What the taking of one selected step keeps, settling keeps. -/
theorem settle_keeps (P : State → Prop) (hpop : ∀ s a, P s → P { s with agenda := a })
    (hone : ∀ n t s, P s → P (runTodo n t s)) (h : P s) : P (settle s) := by
  have all : ∀ fuel s, P s → P (runAgenda fuel s) := by
    intro fuel
    induction fuel with
    | zero => exact fun s h => h
    | succ k ih =>
      intro s h
      unfold runAgenda
      split
      · exact h
      · exact ih _ (hone _ _ _ (hpop _ _ h))
  exact all _ s h

/-- A site that has left RUN takes nothing that was selected for it. -/
theorem runTodo_rest (n : SiteId) (t : Todo) (h : (s.site n).state ≠ .run) : runTodo n t s = s := by
  simp [runTodo, h]

/-! ### Folds over the parts of the block -/

theorem foldl_keeps {α : Type} (P : State → Prop) (f : State → α → State) (xs : List α)
    (hone : ∀ s a, P s → P (f s a)) (h : P s) : P (xs.foldl f s) := by
  induction xs generalizing s with
  | nil => exact h
  | cons x rest ih => exact ih (f s x) (hone s x h)

/-- What one admission keeps, the examination of the space list keeps (R151). -/
theorem examineList_keeps (P : State → Prop) (xs : List SiteId)
    (hpop : ∀ s rest, P s → P { s with queue := { s.queue with space := rest } })
    (hone : ∀ n s, s.runCount < s.free → P s → P (admitPost n s)) (h : P s) : P (examineList xs s) := by
  induction xs generalizing s with
  | nil => exact h
  | cons n rest ih =>
    unfold examineList
    split
    · rename_i hroom
      exact ih _ (hone _ _ hroom (hpop _ _ h))
    · exact h

/-- What one event of the host line keeps, the arrival of bytes keeps. -/
theorem receive_keeps (P : State → Prop) (bytes : List Byte)
    (hbytes : ∀ s held, P s → P (s.setLink { s.link with rxBytes := held, rxLast := s.time }))
    (hone : ∀ s e, P s → P (linkEvent s e)) (h : P s) : P (receive bytes s) :=
  foldl_keeps _ P linkEvent _ hone (hbytes _ _ h)

/-- What one byte of a port keeps, the arrival of bytes keeps. -/
theorem portReceive_keeps (P : State → Prop) (i : InstrId) (bytes : List Byte)
    (hone : ∀ s b, P s → P (portByte i s b)) (h : P s) : P (portReceive i bytes s) :=
  foldl_keeps s P (portByte i) bytes hone h

/-- What one message keeps, the messages of a byte keep. -/
theorem portEvents_keeps (P : State → Prop) (i : InstrId) (es : List PortEvent)
    (hone : ∀ s e, P s → P (portEvent i s e)) (h : P s) : P (portEvents i es s) := by
  induction es generalizing s with
  | nil => exact h
  | cons e rest ih =>
    simp only [portEvents]
    split
    · exact ih _ (hone _ _ h)
    · exact hone _ _ h

/-! ### The end of a step -/

/-- A step that ends in RUN selects what follows (R14, R20). -/
theorem finishStep_run (n : SiteId) (failed : Bool) (bin : Option Bin) (r : StepRecord)
    (ht : (s.site n).taking = some r) (hs : (s.site n).state = .run) :
    finishStep n failed bin s =
      pushTodo n (selectNext r failed) (s.setSite n { (s.site n).clearStep with phase := .step }) := by
  simp [finishStep, ht, hs]

/-- A DIRECT step that ends hands over STEP_DONE (R31). -/
theorem finishStep_manual (n : SiteId) (failed : Bool) (bin : Option Bin) (r : StepRecord)
    (ht : (s.site n).taking = some r) (hs : (s.site n).state ≠ .run) :
    finishStep n failed bin s =
      stepDoneNotice n r (if failed then 1 else 0) bin none
        (s.setSite n { (s.site n).clearStep with phase := .noStep }) := by
  simp [finishStep, ht, hs]

theorem finishStep_none (n : SiteId) (failed : Bool) (bin : Option Bin) (ht : (s.site n).taking = none) :
    finishStep n failed bin s = s := by
  simp [finishStep, ht]

/-! ### Teardown -/

/-- A cause that reaches a site at rest or in TEARDOWN does nothing (R5). -/
theorem enterTeardown_rest (n : SiteId) (cause : Cause) (err : Option StepError) (h : s.works n = false) :
    enterTeardown n cause err s = s := by
  simp [enterTeardown, h]

/-- The entry into TEARDOWN at the site context (R5, R178). -/
theorem teardownEntry_works (n : SiteId) (cause : Cause) (err : Option StepError) (h : s.works n = true)
    (hd : ¬ ((s.site n).state = .manual ∧ (s.site n).inStep = true)) :
    teardownEntry n cause err s =
      s.setSite n { s.site n with
        state := .teardown
        origin := some (if (s.site n).state = .run then .run else .manual)
        cause := some cause
        errorCode := err
        teardownStep := (s.site n).current
        hot := false
        phase := .noStep
        watchdog := none
        outstanding := 0
        teardownPhase := some .stop } := by
  simp only [teardownEntry, h, if_true]
  split
  · rw [if_neg hd]
  · rfl

/-! ### Timers and leases -/

@[simp] theorem Timer.remaining_started (now : Time) (d : Nat) : Timer.remaining ⟨now, d⟩ now = d := by
  simp [Timer.remaining, Timer.elapsed]

/-- The later of two timers is one of them, and neither has more time left. -/
theorem Timer.orLater_spec (t : Timer) (running : Option Timer) (now : Time) :
    (t.orLater running now = t ∨ running = some (t.orLater running now)) ∧
    t.remaining now ≤ (t.orLater running now).remaining now ∧
    ∀ u, running = some u → u.remaining now ≤ (t.orLater running now).remaining now := by
  cases running with
  | none => simp [orLater]
  | some u => by_cases h : t.remaining now < u.remaining now <;> simp [orLater, h] <;> omega

theorem passTo_expired (t : Timer) (h : t.expired s.time = true) : s.passTo t = s := by simp [State.passTo, h]

theorem passTo_running (t : Timer) (h : t.expired s.time = false) : s.passTo t = { s with time := t.expiry } := by
  simp [State.passTo, h]

/-- Letting time pass changes the time base alone. -/
theorem passTo_eq (t : Timer) : s.passTo t = { s with time := (s.passTo t).time } := by
  unfold State.passTo
  split <;> rfl

/-- An expiry at or before every timer that runs is reached when nothing else is due. -/
theorem reaches_waiting (t : Timer) (ha : s.agenda = []) (hd : dueEvent s = none)
    (hr : ∀ x ∈ s.timers, t.remaining s.time ≤ x.remaining s.time) : s.reaches t = true := by
  simp only [State.reaches, ha, hd, List.isEmpty_nil, Option.isNone_none, Bool.and_true, Bool.true_and, Bool.or_eq_true,
    List.all_eq_true, decide_eq_true_eq]
  exact .inr hr

/-- An expiry behind that of a timer that runs is not reached while its own timer has not run. -/
theorem reaches_behind (t x : Timer) (hx : x ∈ s.timers) (ht : t.expired s.time = false)
    (hlt : x.remaining s.time < t.remaining s.time) : s.reaches t = false := by
  have h : (s.timers.all fun x => decide (t.remaining s.time ≤ x.remaining s.time)) = false := by
    rw [List.all_eq_false]
    exact ⟨x, hx, by simpa using hlt⟩
  simp [State.reaches, ht, h]

theorem mem_timers_running (x : Timer × Instr) (h : x ∈ s.running) : x.1 ∈ s.timers :=
  List.mem_append_left _ (List.mem_map_of_mem h)

theorem whenRun_reached (t : Timer) (effect : State → State) (h : s.reaches t = true) :
    whenRun t effect s = effect (s.passTo t) := by simp [whenRun, h]

theorem whenRun_behind (t : Timer) (effect : State → State) (h : s.reaches t = false) : whenRun t effect s = s := by
  simp [whenRun, h]

/-- What the passing of time and the effect of an expiry keep, the expiry keeps. -/
theorem whenRun_keeps (P : State → Prop) (t : Timer) (effect : State → State) (htime : ∀ now, P { s with time := now })
    (heffect : ∀ u, P u → P (effect u)) (h : P s) : P (whenRun t effect s) := by
  unfold whenRun
  split
  · rw [passTo_eq]
    exact heffect _ (htime _)
  · exact h

theorem handover_empty (i : InstrId) (h : (s.lease i).queue = []) : handover i s = s.setLease i ⟨none, []⟩ := by
  simp [handover, h]

/-- A handover passes the lease to the head of the queue, and the rest move up (R40). -/
theorem handover_head (i : InstrId) (head : SiteId) (rest : List SiteId) (h : (s.lease i).queue = head :: rest) :
    handover i s = s.setLease i ⟨some head, rest⟩ := by
  simp [handover, h]

/-- Usability is judged at rest alone, and changes nothing but the state (R2). -/
theorem judgeSite_cases (n : SiteId) :
    judgeSite s n = s ∨ judgeSite s n = s.setSite n { s.site n with state := s.restState n } := by
  unfold judgeSite
  split
  · exact .inl rfl
  · exact .inr rfl

/-! ### Routes and passes -/

/-- A pass begins, or nothing happens (R81). -/
theorem chainKick_cases : chainKick s = s ∨ (s.chain.phase = .idle ∧ chainKick s = beginPass s) := by
  unfold chainKick
  split
  · rename_i h
    simp only [Bool.and_eq_true, beq_iff_eq] at h
    exact .inr ⟨h.1, rfl⟩
  · exact .inl rfl

/-- A live entry goes to BREAKING (R65). -/
theorem breakEntry_live (e : EntryId) (r : LiveRoute) (h : s.route e = some r) (hl : r.live = true) :
    breakEntry s e = markDirty
      { s with
        routes := s.routes.put e.val { r with state := .breaking, pendingPass := true, timer := none }
        image := s.image.remove r.crosspoints } := by
  simp [breakEntry, h, hl]

theorem breakEntry_other (e : EntryId) (h : ∀ r, s.route e = some r → r.live = false) : breakEntry s e = s := by
  unfold breakEntry
  split
  · rename_i r hr
    simp [h r hr]
  · rfl

end Sys2Proof.Machine
end

