-- ==== Sys2Proof/Laws/Table.lean ====
section
/-! SUPPORT. Reading a store after a write, and the canonical form that every operation keeps. -/

namespace Sys2Proof.Machine

variable {α : Type}

/-! ### Reading after a write -/

theorem lookup_insertRow_same (k : Nat) (v : α) (es : List (Nat × α)) : (insertRow k v es).lookup k = some v := by
  induction es with
  | nil => simp [insertRow]
  | cons e rest ih =>
    obtain ⟨j, w⟩ := e
    by_cases h1 : k < j
    · simp [insertRow, h1]
    · by_cases h2 : k = j
      · simp [insertRow, h2]
      · have hb : (k == j) = false := by simp [h2]
        simp only [insertRow, if_neg h1, if_neg h2, List.lookup, hb]
        exact ih

theorem lookup_insertRow_other (k m : Nat) (v : α) (es : List (Nat × α)) (h : m ≠ k) :
    (insertRow k v es).lookup m = es.lookup m := by
  have hm : (m == k) = false := by simp [h]
  induction es with
  | nil => simp [insertRow, List.lookup, hm]
  | cons e rest ih =>
    obtain ⟨j, w⟩ := e
    by_cases h1 : k < j
    · simp [insertRow, h1, List.lookup, hm]
    · by_cases h2 : k = j
      · subst h2
        simp [insertRow, List.lookup, hm]
      · simp only [insertRow, if_neg h1, if_neg h2, List.lookup]
        cases m == j <;> simp [ih]

theorem lookup_filter_ne (k m : Nat) (es : List (Nat × α)) :
    (es.filter fun e => e.1 != k).lookup m = if m = k then none else es.lookup m := by
  induction es with
  | nil => simp
  | cons e rest ih =>
    obtain ⟨j, w⟩ := e
    by_cases h1 : j = k
    · subst h1
      by_cases h2 : m = j
      · subst h2
        simpa using ih
      · have hb : (m == j) = false := by simp [h2]
        simpa [List.lookup, hb, h2] using ih
    · by_cases h2 : m = j
      · subst h2
        simp [h1, List.lookup]
      · have hb : (m == j) = false := by simp [h2]
        simpa [h1, List.lookup, hb] using ih

@[simp] theorem Table.get_empty (k : Nat) : (Table.empty : Table α).get k = none := rfl

@[simp] theorem Table.get_put_same (t : Table α) (k : Nat) (v : α) : (t.put k v).get k = some v :=
  lookup_insertRow_same k v t.entries

theorem Table.get_put_other (t : Table α) (k m : Nat) (v : α) (h : m ≠ k) : (t.put k v).get m = t.get m :=
  lookup_insertRow_other k m v t.entries h

theorem Table.get_erase (t : Table α) (k m : Nat) : (t.erase k).get m = if m = k then none else t.get m :=
  lookup_filter_ne k m t.entries

theorem Table.get_assign (t : Table α) (k m : Nat) (v : Option α) :
    (t.assign k v).get m = if m = k then v else t.get m := by
  cases v with
  | none => simpa [Table.assign] using Table.get_erase t k m
  | some a =>
    by_cases h : m = k
    · subst h
      simp [Table.assign]
    · simp [Table.assign, h, Table.get_put_other t k m a h]

/-! ### The canonical form -/

theorem mem_insertRow (k : Nat) (v : α) (es : List (Nat × α)) (e : Nat × α) (h : e ∈ insertRow k v es) :
    e = (k, v) ∨ e ∈ es := by
  induction es with
  | nil => exact .inl (by simpa [insertRow] using h)
  | cons x rest ih =>
    obtain ⟨j, w⟩ := x
    simp only [insertRow] at h
    split at h
    · rcases List.mem_cons.1 h with h | h
      · exact .inl h
      · exact .inr h
    · split at h
      · rcases List.mem_cons.1 h with h | h
        · exact .inl h
        · exact .inr (List.mem_cons_of_mem _ h)
      · rcases List.mem_cons.1 h with h | h
        · exact .inr (h ▸ List.mem_cons_self)
        · exact (ih h).imp id (List.mem_cons_of_mem _)

theorem pairwise_insertRow (k : Nat) (v : α) (es : List (Nat × α))
    (h : (es.map Prod.fst).Pairwise (· < ·)) : ((insertRow k v es).map Prod.fst).Pairwise (· < ·) := by
  induction es with
  | nil => simp [insertRow]
  | cons x rest ih =>
    obtain ⟨j, w⟩ := x
    simp only [List.map_cons, List.pairwise_cons, List.mem_map, forall_exists_index, and_imp] at h
    obtain ⟨h1, h2⟩ := h
    simp only [insertRow]
    split
    · rename_i hk
      simp only [List.map_cons, List.pairwise_cons, List.mem_cons, List.mem_map]
      refine ⟨?_, ⟨?_, h2⟩⟩
      · rintro a (rfl | ⟨e, he, rfl⟩)
        · exact hk
        · exact hk.trans (h1 _ e he rfl)
      · rintro a ⟨e, he, rfl⟩
        exact h1 _ e he rfl
    · split
      · rename_i hk
        subst hk
        simp only [List.map_cons, List.pairwise_cons, List.mem_map]
        refine ⟨?_, h2⟩
        rintro a ⟨e, he, rfl⟩
        exact h1 _ e he rfl
      · rename_i hk hne
        simp only [List.map_cons, List.pairwise_cons, List.mem_map]
        refine ⟨?_, ih h2⟩
        rintro a ⟨e, he, rfl⟩
        rcases mem_insertRow k v rest e he with rfl | he
        · exact lt_of_le_of_ne (Nat.le_of_not_lt hk) (fun e => hne e.symm)
        · exact h1 _ e he rfl

theorem Table.wf_put (t : Table α) (k : Nat) (v : α) (h : t.wf = true) : (t.put k v).wf = true := by
  simp only [Table.wf, decide_eq_true_eq] at h ⊢
  exact pairwise_insertRow k v t.entries h

theorem Table.wf_erase (t : Table α) (k : Nat) (h : t.wf = true) : (t.erase k).wf = true := by
  simp only [Table.wf, decide_eq_true_eq] at h ⊢
  exact h.sublist (List.filter_sublist.map _)

theorem Table.within_empty (c : Nat) : (Table.empty : Table α).within c :=
  ⟨by simp [Table.wf, Table.empty], by simp [Table.empty]⟩

theorem Table.within_put (t : Table α) (c k : Nat) (v : α) (ht : t.within c) (hk : k < c) : (t.put k v).within c := by
  obtain ⟨h1, h2⟩ := ht
  refine ⟨t.wf_put k v h1, ?_⟩
  · intro e he
    rcases mem_insertRow k v t.entries e he with rfl | he
    · exact hk
    · exact h2 e he

theorem Table.within_erase (t : Table α) (c k : Nat) (ht : t.within c) : (t.erase k).within c := by
  obtain ⟨h1, h2⟩ := ht
  exact ⟨t.wf_erase k h1, fun e he => h2 e (List.mem_of_mem_filter he)⟩

theorem Table.within_assign (t : Table α) (c k : Nat) (v : Option α) (ht : t.within c) (hk : k < c) :
    (t.assign k v).within c := by
  cases v with
  | none => exact t.within_erase c k ht
  | some a => exact t.within_put c k a ht hk

theorem Table.within_assignFrom (vs : List (Option α)) (t : Table α) (c k : Nat) (ht : t.within c)
    (hk : k + vs.length ≤ c) : (t.assignFrom k vs).within c := by
  induction vs generalizing t k with
  | nil => exact ht
  | cons v rest ih =>
    simp only [List.length_cons] at hk
    exact ih (t.assign k v) (k + 1) (t.within_assign c k v ht (by omega)) (by omega)

end Sys2Proof.Machine
end

