-- ==== Sys2Proof/WellFormed.lean ====
section
/-! DEFINITION. Which terms of Instr are commands the block can be given: a frame that fits the line (R191) and is filed
under its own row of the table, operands of the lengths their transfers carry (R168, R176), and messages of the adapter
that a length byte can count (R100). `exec` is total on all terms all the same. -/

namespace Sys2Proof

/-- The command's frame is one that the host line can carry and that the catalogue files under this very row. -/
def requestWellFormed (i : Instr) : Bool :=
  match requestFrame i with
  | some f => decide (f.body.length ≤ 1024) && decide (requestCommand f = i)
  | none => true

/-- The lengths of the operands of the events that carry data. -/
def operandsWellFormed : Instr → Bool
  | .goodFrameArrival bytes | .frameLengthDrop bytes => !bytes.isEmpty
  | .portAck _ _ body | .portNak _ _ body | .portValue _ _ body | .portIdent _ _ body => decide (body.length ≤ 255)
  | .portUnknownKindMessage _ kind _ body =>
    decide (body.length ≤ 255) && decide (kind ∉ [0x81, 0x82, 0x83, 0x84])
  | .portBadChecksum _ bytes => !bytes.isEmpty
  | .loadHeaderDone (.bytes d) => decide (d.length = 9)
  | .loadBodyDone (.bytes d) => decide (d.length ∈ [6, 10, 14, 18, 22, 26, 30, 34])
  | .fixmemReadDone (.bytes d) => decide (1 ≤ d.length ∧ d.length ≤ 64)
  | .fixmemWriteDone (some k) => decide (k < 19)
  | _ => true

/-- A command the block can be given. -/
def WellFormed (i : Instr) : Bool := requestWellFormed i && operandsWellFormed i

end Sys2Proof
end

