-- ==== Sys2Proof/Tests/Slice0.lean ====
section
/-! SUPPORT. Tests: the smoke test of WellFormed, the figures that the spec works out, one or two steps of a command with results
computed by hand from its rules, and for every statement with hypotheses a witness that meets them. -/

namespace Sys2Proof.Tests
open Sys2Proof.Machine

-- Every test is a kernel evaluation: one after another, or each waits in a thread of its own for the one before.
set_option Elab.async false

/-! ### WellFormed refuses what each check is there for -/

theorem test_wf_body_above_1024 : WellFormed (.ident 1 (.replicate 1025 0)) = false := by decide +kernel
theorem test_wf_wrong_row : WellFormed (.statusSummary 1 [1]) = false := by decide
theorem test_wf_right_row : WellFormed (.statusSites 1 [1]) = true := by decide
theorem test_wf_unknown_kind_in_use : WellFormed (.unknownKindFrame 0x01 1 []) = false := by decide
theorem test_wf_no_bytes : WellFormed (.goodFrameArrival []) = false ∧ WellFormed (.frameLengthDrop []) = false ∧
    WellFormed (.portBadChecksum 0 []) = false := by decide
theorem test_wf_long_answers (body : List Byte) (h : body.length = 256) : WellFormed (.portAck 0 1 body) = false ∧
    WellFormed (.portNak 0 1 body) = false ∧ WellFormed (.portValue 0 1 body) = false ∧
    WellFormed (.portIdent 0 1 body) = false ∧ WellFormed (.portUnknownKindMessage 0 1 1 body) = false := by
  simp [WellFormed, requestWellFormed, operandsWellFormed, requestFrame, h]
theorem test_wf_kind_the_port_knows : WellFormed (.portUnknownKindMessage 0 0x81 1 []) = false := by decide
theorem test_wf_transfer_lengths : WellFormed (.loadHeaderDone (.bytes [1])) = false ∧
    WellFormed (.loadBodyDone (.bytes [1])) = false ∧ WellFormed (.fixmemReadDone (.bytes [])) = false ∧
    WellFormed (.fixmemReadDone (.bytes (.replicate 65 0))) = false ∧ WellFormed (.fixmemWriteDone (some 19)) = false := by
  decide +kernel

/-! ### Figures of the spec -/

/-- R163: over the nine ASCII bytes 123456789 the computation gives 0x29B1. -/
theorem test_crc : crc16 [0x31, 0x32, 0x33, 0x34, 0x35, 0x36, 0x37, 0x38, 0x39] = 0x29B1 := by decide +kernel

/-- Worked case of chapter 6: the first sample. -/
theorem test_worked_sample : calibrate ⟨-1200, 4404019, 2, true⟩ 1234567 = 1297555 := by decide

/-- Worked case of chapter 6: the four values, their sum and extremes. -/
theorem test_worked_sum : ([1296305, 1296311, 1296298, 1296308].foldl accumulate .empty).sum = 5185222 ∧
    ([1296305, 1296311, 1296298, 1296308].foldl accumulate .empty).minimum = some 1296298 ∧
    ([1296305, 1296311, 1296298, 1296308].foldl accumulate .empty).maximum = some 1296311 := by decide

/-- Worked case of chapter 6: the mean is a tie and rounds away from zero; the span is 13. -/
theorem test_worked_reduction : roundDiv 5185222 4 = 1296306 ∧
    reduce .span ([1296305, 1296311, 1296298, 1296308].foldl accumulate .empty) = 13 := by decide

/-- Worked case of chapter 6: the bins of sets 30 and 31. -/
theorem test_worked_bins : binOf 1250000 1350000 10000 1296306 = .pass ∧
    judgeValue (.replicate 8 ⟨1300000, true⟩) (some (.rel 1 150 150 0 ⟨0, 0⟩)) false 1296306 = (.pass, false) := by decide

/-- Variations of chapter 6: a collapsed guard band, and no reference. -/
theorem test_variation_bins : binOf 1290000 1300000 6000 1296306 = .margin ∧ binOf 1290000 1300000 6000 1295000 = .margin ∧
    judgeValue (.replicate 8 ⟨0, false⟩) (some (.rel 1 150 150 0 ⟨0, 0⟩)) false 1296306 = (.invalid, true) := by decide

/-- Variations of chapter 6: −4.5 rounds to −5. -/
theorem test_variation_rounding : calibrate ⟨0, 6291456, 0, true⟩ (-3) = -5 ∧ calibrate ⟨0, 6291456, 0, true⟩ 3 = 5 := by
  decide

/-- Variations of chapter 6: tolerances of 1.5 round to 2, and the band of a negative reference. -/
theorem test_variation_limits :
    judgeValue (.replicate 8 ⟨3000, true⟩) (some (.rel 1 5 5 0 ⟨0, 0⟩)) false 3003 = (.failHigh, false) ∧
    judgeValue (.replicate 8 ⟨3000, true⟩) (some (.rel 1 5 5 0 ⟨0, 0⟩)) false 3002 = (.pass, false) ∧
    judgeValue (.replicate 8 ⟨-500000, true⟩) (some (.rel 1 200 100 0 ⟨0, 0⟩)) false (-510001) = (.failLow, false) := by decide

/-- Variations of chapter 6: an overrange third sample judges FAIL_HIGH with the value clamped. -/
theorem test_variation_overrange :
    overrangeOf 8388607 false true = some false ∧ binOf 1250000 1350000 10000 134217727 = .failHigh := by decide

/-! ### Commands -/

/-- The state that a command leaves. -/
def after (c : Instr) (s : State) : State :=
  match exec c s with
  | .next t => t
  | _ => s

/-- The frames in the transmit queue. -/
def sent (s : State) : List Frame := s.link.tx

/-- Power-on with LID low is closed and loads; with LID high it is a safe cause, and the straps select the rate. -/
theorem test_resets :
    (State.reset.lidClosed = true ∧ State.reset.fixture.state = .loading) ∧
    ((after (.powerOnReset false true 0x10000 0) .reset).safe = ⟨true, false, false⟩ ∧
    (after (.powerOnReset false true 0x10000 0) .reset).link.rateCode = 1) := by decide +kernel

/-- Replies of the link: UNKNOWN_KIND, IDENT, BAD_LENGTH, a bad part code; STATUS clears the latch marks it reports. -/
theorem test_link_requests :
    (sent (after (.unknownKindFrame 0x7F 9 []) .reset) = [⟨0x40, 9, [0x01, 0x7F]⟩]) ∧
    (sent (after (.ident 9 []) .reset) = [⟨0x41, 9,
    [0x00, 0x60, 0x28, 0x01, 0x00, 8, 6, 16, 0, 2, 16, 0, 8, 0, 1, 128, 0, 1, 0, 4, 0, 0, 0, 0]⟩]) ∧
    (sent (after (.ident 9 [1]) .reset) = [⟨0x41, 9, [0x02]⟩]) ∧
    (sent (after (requestCommand ⟨0x02, 9, [6]⟩) .reset) = [⟨0x42, 9, [0x03]⟩]) ∧
    (((after (.statusInputs 9 [5])
      (State.reset.setLine 3 { InputLine.powerOn false with latchActive := true })).line 3).latchActive = false) := by decide +kernel

/-- A good frame enters the buffer, a third is an OVERRUN; the link watchdog expires at its reading; SAFE_ENTER orders every site. -/
theorem test_frames_and_watchdog :
    ((after (.goodFrameArrival (frameBytes ⟨0x01, 2, []⟩)) .reset).link.rx = [⟨0x01, 2, []⟩]) ∧
    ((after (.goodFrameArrival (frameBytes ⟨0x01, 2, []⟩))
      { State.reset with link := { State.reset.link with rx := [⟨1, 0, []⟩, ⟨1, 1, []⟩] } }).link.counters.overrun = 1) ∧
    ((after .linkWatchdogExpiry (after (.watchdogSet 1 [5, 0]) .reset)).safe = ⟨false, true, false⟩ ∧
    (after .linkWatchdogExpiry (after (.watchdogSet 1 [5, 0]) .reset)).time = 5000) ∧
    ((after (.safeEnter 1 []) .reset).orders = .replicate 8 [.safeRequest] ∧
    (after (.safeLeave 2 []) (after (.safeEnter 1 []) .reset)).safe = ⟨false, false, false⟩) := by decide +kernel

/-- SITE_SET and VAR_SET at the ends of their ranges; START of an unseated site and under a safe cause; MANUAL. -/
theorem test_site_requests :
    (sent (after (.siteSet 1 [0, 0, 8, 0, 0, 0]) .reset) = [⟨0x58, 1, [0x03]⟩]) ∧
    (sent (after (.varSet 1 [0, 0, 0, 0, 0, 8, 1]) .reset) = [⟨0x5E, 1, [0x03]⟩] ∧
    ((after (.varSet 1 [0, 7, 0xFF, 0xFF, 0xFF, 7, 1]) .reset).site 0).vars[7] = ⟨134217727, true⟩) ∧
    (sent (after (.start 1 [0, 0, 0, 0]) .reset) = [⟨0x59, 1, [0x04]⟩]) ∧
    (sent (after (.start 1 [0, 0, 0, 0]) { State.reset with safe := ⟨false, false, true⟩ }) = [⟨0x59, 1, [0x07]⟩]) ∧
    (((after (.manual 1 [2]) (State.reset.setSite 2 { Site.powerOn with state := .idle })).site 2).state = .manual) := by decide +kernel

/-- A run that starts on an empty slot ends with BADSTEP and its RUN_END record. -/
theorem test_start_on_empty_slot_ends_badstep :
    let t := after (.start 1 [0, 0, 0, 0]) (State.reset.setSite 0 { Site.powerOn with state := .idle, runNumber := 65535 })
    (t.site 0).runNumber = 1 ∧ (t.site 0).cause = some .stepError ∧ (t.site 0).errorCode = some .badStep ∧
      t.queue.posted.length = 1 := by decide +kernel

/-- FETCH of an empty queue, CAL_SET with gain 0 and at its far indices, STEPS_LOAD into the last slot, WEAR_READ of nine buses. -/
theorem test_tables :
    (sent (after (.fetch 1 [16]) .reset) = [⟨0x64, 1, [0x00, 0]⟩]) ∧
    (sent (after (.calSet 1 [0, 0, 0, 0, 0, 0, 0, 0, 0, 1]) .reset) = [⟨0x4C, 1, [0x03]⟩] ∧
    (after (.calSet 1 [5, 7, 0xFF, 0xFF, 0xFF, 1, 0, 0, 9, 1]) .reset).calEntry 5 7 = ⟨-1, 1, 9, true⟩) ∧
    ((after (.stepsLoad 1 ([0xFF, 0x07, 0] ++ [0x09, 7, 0, 0xFE, 0xFF, 0xFF, 0xFF, 0x10, 0x27, 0] ++ .replicate 10 0))
      .reset).steps.get 2047 = some ⟨7, .chainEnd, none, .delay 10000⟩) ∧
    (sent (after (.wearRead 1 [0, 0, 9]) .reset) = [⟨0x52, 1, [0x03]⟩]) := by decide +kernel

/-- CARD_RESET in discovery, the discovery of one card, and the refresh timer. -/
theorem test_chain :
    (sent (after (.cardReset 1 [0]) .reset) = [⟨0x51, 1, [0x05]⟩]) ∧
    (let t := after (.discoveryEnd ((Vector.replicate 16 none).set 3 (some ⟨0x42, 0⟩))) .reset
    (t.card 3).state = .active ∧ (t.card 3).id = some 0x42 ∧ (t.card 2).state = .absent ∧ t.chain.phase = .idle) ∧
    ((after .refreshExpiry .reset).time = 50000 ∧ (after .refreshExpiry .reset).chain.passDue = true) := by decide +kernel

/-- INSTR_SET of a disabled port sends HELLO. -/
theorem test_instr_set_sends_hello :
    let t := after (.instrSet 1 [4, 1, 0, 1, 0xFF, 0xFF, 0xE8, 3, 10, 4, 1]) .reset
    (t.port 4).state = .command ∧ (t.port 4).lastSent = [0x5A, 0x01, 0x01, 0x00, 0xFE] ∧ (t.port 4).source = .unknown := by decide +kernel

/-- INPUTS_SET with a new polarity, FIXTURE_DEFINE of one site, the HEADER read and its end, FIXMEM_TAKE under a closed lid. -/
theorem test_fixture :
    (let t := after (.inputsSet 1 ((List.replicate 17 [(10 : Byte), 1, 0]).flatten.set 1 0)) .reset
    (t.line 0).active = false ∧ (t.line 0).latchInactive = true ∧ (t.line 1).active = true) ∧
    (let core : List Byte := [1, 2, 0, 3, 0, 0, 0, 4, 1, 0, 0, 0, 2]
    (after (.fixtureDefine 1 (core ++ crcBytes core))
      (State.reset.setFixture { State.reset.fixture with state := .noIdentity })).fixture.state = .emulated) ∧
    ((after (.loadHeaderDone (.bytes [2, 0, 0, 0, 0, 0, 0, 0, 1])) .reset).fixture.loadCause = some .format ∧
    (after (.loadHeaderDone (.refused 2)) .reset).fixture.error = some .noAck ∧
    (after (.loadHeaderDone (.refused 2)) .reset).fixture.sent = [.start, .byte 0xB8, .byte 0, .byte 0, .stop]) ∧
    (sent (after (.fixmemTake 1 []) .reset) = [⟨0x6B, 1, [0x04]⟩]) := by decide +kernel

/-- R174: 0x5C and the write direction, the word address high byte first, the data, a stop; then the polls, 500 µs apart. -/
theorem test_fixmem_write_on_the_bus :
    let s := State.reset.setFixture { Fixture.powerOn with owner := .link }
    let t := after (.fixmemWrite 1 [0x23, 0x01, 0xAA, 0xBB]) s
    t.fixture.sent = [.start, .byte 0xB8, .byte 0x01, .byte 0x23, .byte 0xAA, .byte 0xBB] ∧
    (after (.fixmemWritePoll true) (after (.fixmemWriteDone none) t)).fixture.sent =
      [.start, .byte 0xB8, .byte 0x01, .byte 0x23, .byte 0xAA, .byte 0xBB, .stop, .start, .byte 0xB8, .stop] ∧
    (after (.fixmemWritePoll true) (after (.fixmemWriteDone none) t)).time = 500 ∧
    sent (after (.fixmemWriteDone (some 4)) t) = [⟨0x6E, 1, [0x09, 0x01, 1, 0]⟩] := by decide +kernel

/-- R16, R25: a DELAY of 20 ms under a step watchdog of 5 ms ends in STEP_TIMEOUT at 5 ms, not at the end of the DELAY. -/
theorem test_the_watchdog_comes_before_a_longer_delay :
    let s := State.reset.setSite 0 { Site.powerOn with
      state := .run, runNumber := 1, phase := .wait .delay, stepTimer := some ⟨0, 20000⟩, watchdog := some ⟨0, 5000⟩
      current := some (.slot 0), taking := some ⟨0, .chainEnd, none, .delay 20000⟩ }
    after (.delayExpiry 0) s = s ∧ ((after (.stepWatchdogExpiry 0) s).site 0).cause = some .stepTimeout ∧
    (after (.stepWatchdogExpiry 0) s).time = 5000 := by decide +kernel

/-! ### Witnesses: a state and operands that meet the hypotheses of every clause, a statement a theorem -/

/-- The reset state with one site, one port or one lease as given. -/
def atSite (c : Site) : State := State.reset.setSite 0 c
def atPort (p : Port) : State := State.reset.setPort 0 p
def held (s : State) : State := s.setLease 0 ⟨some 0, []⟩

def inState (x : SiteState) : Site := { Site.powerOn with state := x, runNumber := 1 }
def stepOf (k : StepKind) : StepRecord := ⟨7, .slot 1, some .chainEnd, k⟩
def working (x : SiteState) (p : Phase) (k : StepKind) : Site :=
  { inState x with phase := p, current := some (.slot 0), taking := some (stepOf k) }
def portIn (x : PortState) (a : Option Awaited) (u : Option PortUser) : Port :=
  { Port.powerOn false with state := x, awaited := a, user := u, outstanding := some 5 }

/-- R99: a pulse begun runs its full width, here 40 µs beside the 10 of the new trigger. -/
theorem test_a_wider_pulse_runs_on :
    ((giveTrigger 0 0 (atPort { portIn .idle none none with pulse := some ⟨0, 40⟩ })).port 0).pulse = some ⟨0, 40⟩ ∧
    ((giveTrigger 0 0 (atPort (portIn .idle none none))).port 0).pulse = some ⟨0, 10⟩ := by decide +kernel

/-- R177: LID low reads open under polarity HIGH, also when the polarity was written during a load. -/
theorem test_soft_reset_reads_the_lid :
    let s := softResetTaken (State.reset.setLine 16 { State.reset.line 16 with polarity := true })
    s.safe.lid = true ∧ s.fixture.state = .noIdentity ∧ s.lidClosed = false := by decide +kernel

/-- Idle site 0, queue with `k` records. -/
def sample0 : ResultRecord :=
  .sample ⟨false, 0, 0, 0, none, 0, 0, 0, 0, ⟨0, .pass, false, false, false, false, false⟩, 1, 0, 0⟩
def posted (k : Nat) (s : State) : State := { s with queue := { s.queue with posted := .replicate k sample0 } }
def unsafeAll (s : State) : State := { s with safe := ⟨true, false, false⟩ }

/-- The same with a link watchdog that expires in 1 µs: no later expiry is reached. -/
def hurried (s : State) : State := { s with link := { s.link with watchdog := some ⟨s.time, 1⟩ } }

/-- Any frame of the line is taken in the reset state, and its block sees the reset state: what the clauses without a guard
ask for. -/
theorem witness_requests_are_taken (f : Frame) (h : f.body.length ≤ 1024) :
    Takes f .reset ∧ taken f .reset = .reset :=
  ⟨⟨.inr ⟨rfl, rfl, h⟩, rfl, by decide⟩, rfl⟩

theorem witness_StepTakesTheFrontCommand :
    { State.reset with pending := [.frameSent] }.pending = [.frameSent] ∧ State.reset.pending = [] ∧
    State.reset.agenda = [] ∧ dueEvent .reset = none ∧
    dueEvent { State.reset with time := 50000 } = some .refreshExpiry := by decide +kernel

theorem witness_EveryCommandAnswersAndLeavesTheQueue : exec .frameSent .reset = .next .reset := rfl

theorem witness_SoftReset : { State.reset.link with inProgress := some .softReset }.inProgress = some .softReset ∧
    { State.reset.link with inProgress := some .softResetDue }.inProgress = some .softResetDue ∧
    State.reset.chain.phase ≠ .verify ∧ (State.reset.port 0).state = .disabled ∧
    ((atPort (portIn .idle none none)).port 0).state = .idle ∧
    ((atPort (portIn .offline none none)).port 0).state = .offline := by decide +kernel

theorem witness_SoftResetAnswersBeforeItsEffect :
    { State.reset.link with tx := [⟨0x45, 1, [0]⟩] }.tx = [⟨0x45, 1, [0]⟩] ∧ State.reset.link.tx = [] := by decide

theorem witness_FramesAreReceivedOrDropped :
    (⟨1, 2, []⟩ : Frame).body.length ≤ 1024 ∧ State.reset.link.rxBytes = [] ∧ 1024 < read16 1 4 ∧ ¬1024 < read16 0 4 ∧
    [0, 0] ≠ crcBytes (frameCore ⟨1, 2, []⟩) ∧ 0xA5 ∉ frameCore ⟨1, 2, []⟩ ++ [0, 0] ∧
    (0xA5 : Byte) ∉ [(1 : Byte)] ∧
    (let s := State.reset.setLink { State.reset.link with rxBytes := [0xA5, 1] }
    s.link.rxBytes = 0xA5 :: [1] ∧ s.reaches ⟨s.link.rxLast, 10000⟩ = true ∧
      (hurried s).link.rxBytes = 0xA5 :: [1] ∧ (hurried s).reaches ⟨(hurried s).link.rxLast, 10000⟩ = false) := by
  decide +kernel

theorem witness_ReceiverReadsEveryFrameTheLinkWrites :
    (⟨1, 2, [3]⟩ : Frame).body.length ≤ 1024 ∧ (0xA5 : Byte) ∉ [(7 : Byte)] ∧
    frameBytes ⟨1, 2, [3]⟩ = [0xA5] ++ (frameCore ⟨1, 2, [3]⟩ ++ crcBytes (frameCore ⟨1, 2, [3]⟩)) ∧
    frameCore ⟨1, 2, [3]⟩ ++ crcBytes (frameCore ⟨1, 2, [3]⟩) ≠ [] := by decide +kernel

theorem witness_SafeCausesOfTheHostAreSet :
    let s := State.reset.setLink { State.reset.link with watchdog := some ⟨0, 5000⟩ }
    let t := { s with agenda := [((0 : SiteId), Todo.take 0)] }
    (s.link.watchdog = some ⟨0, 5000⟩ ∧ s.reaches ⟨0, 5000⟩ = true) ∧
    (t.link.watchdog = some ⟨0, 5000⟩ ∧ t.reaches ⟨0, 5000⟩ = false) ∧ State.reset.link.watchdog = none := by decide +kernel

theorem witness_WrongRequestsAreAnswered :
    (0x7F : Byte) ∉ catalogue ∧ (0x01 : Byte) ∈ catalogue ∧ lengthAllowed 0x01 1 = false ∧
    Takes ⟨0x01, 9, [0]⟩ .reset ∧ (taken ⟨0x01, 9, [0]⟩ .reset).agenda = [] := by unfold Takes; decide +kernel

theorem witness_StatusReportsThePartAsked :
    (127 : Byte).toNat < 128 ∧ (128 ≤ (128 : Byte).toNat) ∧ (5 < (6 : Byte).toNat) := by decide

theorem witness_CountersAreReportedAndCleared :
    3 < (4 : Byte).toNat ∧ ((2 : Byte) = 2 ∧ 5 < (6 : Byte).toNat) := by decide

theorem witness_StepsEndAndAreSelected :
    let r := atSite (working .run .step (.delay 0))
    let m := atSite (working .manual .step (.delay 0))
    let a := fun c : Site => { atSite c with agenda := [((0 : SiteId), Todo.take 0)], steps := Table.empty.put 0 (stepOf .chainEnd) }
    ((r.site 0).taking = some (stepOf (.delay 0)) ∧ (r.site 0).state = .run) ∧
    ((m.site 0).taking = some (stepOf (.delay 0)) ∧ (m.site 0).state = .manual) ∧
    ((a (inState .run)).agenda = [(0, .take 0)] ∧ ((a (inState .run)).site 0).state = .run ∧
      (a (inState .run)).steps.get 0 = some (stepOf .chainEnd)) ∧
    (a (inState .run)).steps.get 1 = none ∧ ((a (inState .teardown)).site 0).state ≠ .run ∧
    ((m.site 0).phase ≠ .noStep ∧ (State.reset.site 0).state ≠ .run ∧ (State.reset.site 0).state ≠ .manual) ∧
    ({ r with agenda := [((0 : SiteId), Todo.enter .complete none)] }).agenda = (0, .enter .complete none) :: [] ∧
    State.reset.agenda = [] := by decide +kernel

theorem witness_SiteStepsRunAndTimeOut :
    let t : Timer := ⟨0, 5⟩
    let delay := { working .run (.wait .delay) (.delay 5) with stepTimer := some t }
    let flag := { working .run (.wait .flag) (.waitFlag 1 .any 1) with stepTimer := some t }
    (stepOf (.delay 0)).kind = .delay 0 ∧ (5 : BitVec 24) ≠ 0 ∧
    (delay.phase = .wait .delay ∧ delay.stepTimer = some t) ∧ (flag.phase = .wait .flag ∧ flag.stepTimer = some t) ∧
    ({ inState .run with watchdog := some t }.state = .run ∧ { inState .run with watchdog := some t }.watchdog = some t) ∧
    (inState .run).phase ≠ .wait .delay ∧ (inState .run).phase ≠ .wait .flag ∧ (inState .idle).state ≠ .run ∧
    t.duration < 4294967296 ∧
    (∀ c ∈ [delay, flag, { inState .run with watchdog := some t }],
      (atSite c).reaches t = true ∧ (hurried (atSite c)).reaches t = false) := by decide +kernel

/-- A flag wait of 9 µs under a step watchdog of 5 µs, and the reverse. -/
theorem witness_SiteStepsRunAndTimeOut_order :
    let flag := { working .run (.wait .flag) (.waitFlag 1 .any 1) with stepTimer := some ⟨0, 9⟩, watchdog := some ⟨0, 5⟩ }
    let other := { flag with watchdog := some ⟨0, 11⟩ }
    (flag.state = .run ∧ flag.watchdog = some ⟨0, 5⟩ ∧ flag.stepTimer = some ⟨0, 9⟩ ∧
      5 - ((0 : Time) - 0).toNat < 9 - ((0 : Time) - 0).toNat) ∧
    (other.state = .run ∧ other.watchdog = some ⟨0, 11⟩ ∧ other.phase = .wait .flag ∧
      9 - ((0 : Time) - 0).toNat < 11 - ((0 : Time) - 0).toNat) := by decide

theorem witness_SiteSettingsVariablesAndFlagsAreSet :
    let wait := atSite (working .run (.wait .flag) (.waitFlag 1 .any 0))
    (read16 0xFF 7 ≤ 2047 ∧ (1 : Byte).toNat ≤ 1) ∧ (2047 < read16 0 8 ∧ 7 < (8 : Byte).toNat ∧ 1 < (2 : Byte).toNat) ∧
    (signed32 (read32 0xFF 0xFF 0xFF 7) ≤ 134217727 ∧ -134217727 ≤ signed32 (read32 0xFF 0xFF 0xFF 7)) ∧
    134217727 < (signed32 (read32 0 0 0 8)).natAbs ∧
    (Takes ⟨0x1E, 1, [0, 0, 0, 0, 0, 0, 1]⟩ .reset ∧ (State.reset.site 0).state ≠ .run ∧
      (State.reset.site 0).state ≠ .teardown) ∧
    (Takes ⟨0x1E, 1, [0, 0, 0, 0, 0, 0, 1]⟩ (atSite (inState .run)) ∧
      ((taken ⟨0x1E, 1, [0, 0, 0, 0, 0, 0, 1]⟩ (atSite (inState .run))).site 0).state = .run) ∧
    (Takes ⟨0x20, 1, [0, 1]⟩ wait ∧ (taken ⟨0x20, 1, [0, 1]⟩ wait).agenda = [] ∧
      ((taken ⟨0x20, 1, [0, 1]⟩ wait).site 0).phase = .wait .flag ∧
      ((taken ⟨0x20, 1, [0, 1]⟩ wait).site 0).taking = some (stepOf (.waitFlag 1 .any 0))) ∧
    (State.reset.agenda = [] ∧ (State.reset.site 0).phase ≠ .wait .flag) := by unfold Takes; decide +kernel

theorem witness_StartBeginsARun :
    let f : Frame := ⟨0x19, 1, [0, 0xFF, 7, 1]⟩
    let s := atSite (inState .idle)
    (read16 0xFF 7 < 2048 ∧ read16 0xFF 0xFF = 0xFFFF ∧ (1 : Byte).toNat ≤ 1) ∧
    (Takes f s ∧ (taken f s).safe = ⟨false, false, false⟩ ∧ ((taken f s).site 0).state = .idle ∧
      (taken f s).runCount < (taken f s).free) ∧
    (Takes f (unsafeAll s) ∧ (taken f (unsafeAll s)).agenda = [] ∧ (taken f (unsafeAll s)).safe ≠ ⟨false, false, false⟩) ∧
    (State.reset.safe = ⟨false, false, false⟩ ∧ (State.reset.site 0).state ≠ .idle) ∧
    (Takes f (posted 1024 s) ∧ (taken f (posted 1024 s)).agenda = [] ∧ (taken f (posted 1024 s)).safe = ⟨false, false, false⟩ ∧
      ((taken f (posted 1024 s)).site 0).state = .idle ∧ (taken f (posted 1024 s)).free ≤ (taken f (posted 1024 s)).runCount) ∧
    (2048 ≤ read16 0 8 ∧ read16 0 8 ≠ 0xFFFF) := by unfold Takes; decide +kernel

theorem witness_ManualAndDirectStepASite :
    let m : Frame := ⟨0x1B, 1, [0]⟩
    let d : Frame := ⟨0x1C, 1, 0 :: stepRecordBytes (stepOf (.delay 5))⟩
    let s := atSite (inState .idle)
    let t := atSite (inState .manual)
    let u := atSite (working .manual .step (.delay 5))
    (Takes m s ∧ (taken m s).safe = ⟨false, false, false⟩ ∧ ((taken m s).site 0).state = .idle) ∧
    (Takes m (unsafeAll s) ∧ (taken m (unsafeAll s)).safe ≠ ⟨false, false, false⟩) ∧ ((taken m t).site 0).state ≠ .idle ∧
    (stepOf (.delay 5)).inRange = true ∧
    (Takes d t ∧ (taken d t).safe = ⟨false, false, false⟩ ∧ ((taken d t).site 0).state = .manual ∧
      ((taken d t).site 0).phase = .noStep) ∧
    (Takes d (unsafeAll t) ∧ (taken d (unsafeAll t)).agenda = [] ∧ (taken d (unsafeAll t)).safe ≠ ⟨false, false, false⟩) ∧
    (Takes d s ∧ (taken d s).agenda = [] ∧ (taken d s).safe = ⟨false, false, false⟩ ∧ ((taken d s).site 0).state ≠ .manual) ∧
    (Takes d u ∧ (taken d u).agenda = [] ∧ (taken d u).safe = ⟨false, false, false⟩ ∧ ((taken d u).site 0).state = .manual ∧
      ((taken d u).site 0).phase ≠ .noStep) ∧
    (List.replicate 20 (0 : Byte)).length = 20 ∧ readStepRecord (.replicate 20 0) = none := by unfold Takes; decide +kernel

theorem witness_AbortAndSiteClearTearDown :
    let f : Frame := ⟨0x1A, 1, [0]⟩
    let g : Frame := ⟨0x1D, 1, [0]⟩
    (Takes f (atSite (inState .run)) ∧ ((taken f (atSite (inState .run))).site 0).state = .run) ∧
    (Takes f .reset ∧ (taken f .reset).agenda = [] ∧ ((taken f .reset).site 0).state ≠ .run ∧
      ((taken f .reset).site 0).state ≠ .manual) ∧
    (Takes g (atSite (inState .manual)) ∧ ((taken g (atSite (inState .manual))).site 0).state = .manual) ∧
    (Takes g .reset ∧ (taken g .reset).agenda = [] ∧ ((taken g .reset).site 0).state ≠ .manual) ∧
    7 < (8 : Byte).toNat := by unfold Takes; decide +kernel

theorem witness_TeardownIsEntered :
    (inState .run).state = .run ∧ (inState .manual).state = .manual ∧
    ((inState .idle).state ≠ .run ∧ (inState .idle).state ≠ .manual) ∧
    (Vector.replicate 8 [Cause.lid])[(0 : SiteId)] = .lid :: [] ∧ State.reset.orders[(0 : SiteId)] = [] ∧
    ({ inState .teardown with teardownPhase := some .stop }).teardownPhase = some .stop ∧
    ((portIn .command (some .outputOn) (some (.site 0))).user = some (.site 0) ∧
      (portIn .command (some .outputOn) (some (.site 0))).state = .command ∧
      (portIn .command (some .outputOn) (some (.site 0))).awaited = some .outputOn) ∧
    ((portIn .idle none none).user ≠ some (.site 0) ∧
      { portIn .idle none none with spacing := some (0, ⟨0, 9⟩) }.spacing = some (0, ⟨0, 9⟩) ∧
      (portIn .idle none none).spacing = none) := by decide +kernel

theorem witness_RunEndsWithItsRecord :
    let s := atSite (inState .run)
    (s.site 0).state = .run ∧
    (∀ i, (s.lease i).holder ≠ some 0 ∧ (s.port i).user ≠ some (.site 0) ∧ (s.port i).spacing = none) ∧
    s.siteEntries 0 = [] ∧ s.queue.space = [] := by decide +kernel

theorem witness_QuietAsksAndCollects :
    let quiet := { inState .teardown with teardownPhase := some .quiet, origin := some .run, outstanding := 1 }
    let s := (atSite quiet).setPort 0 { portIn .idle none none with quietReport := some (0, .acked) }
    let t := atPort { portIn .idle none none with quietReport := some (0, .acked) }
    (State.reset.port 0).state = .disabled ∧ (portIn .offline none none).state = .offline ∧
    (portIn .idle none none).state = .idle ∧ (portIn .command none none).state = .command ∧
    ((s.port 0).quietReport = some (0, .acked) ∧ (s.site 0).state = .teardown ∧ (s.site 0).teardownPhase = some .quiet) ∧
    ((t.port 0).quietReport = some (0, .acked) ∧ t.agenda = [] ∧ (t.site 0).state ≠ .teardown) ∧
    (State.reset.port 0).quietReport = none := by decide +kernel

/-- An entry of site 0 on instrument 0, bus 0, node 0. -/
def entry0 (x : RouteState) : LiveRoute :=
  { site := 0, definition := 0, inst := 0, terminal := .hi, bus := 0, nodes := [0], settle := 0, state := x,
    pendingPass := true, timer := some ⟨0, 5⟩, madeAt := none, zero := none }
def withEntry (x : RouteState) (s : State) : State :=
  { s with routes := Table.empty.put 0 (entry0 x), nodes := Table.empty.put 0 ⟨0, 0⟩ }
def withSource (x : SourceState) (s : State) : State := s.setPort 0 { portIn .idle none none with source := x }

theorem witness_RunEndsWithItsRecord_phases :
    let s := withEntry .made .reset
    s.siteEntries 0 = [0] ∧ (s.route 0 = some (entry0 .made) ∧ (entry0 .made).site = 0 ∧ (entry0 .made).state ≠ .breaking) ∧
    State.reset.chain.phase ≠ .idle ∧ { State.reset.chain with phase := .idle }.phase = .idle ∧
    (withEntry .breaking .reset).siteEntries 0 = [0] ∧ (entry0 .breaking).state = .breaking ∧
    { inState .teardown with origin := some .run }.origin = some .run ∧
    { inState .teardown with origin := some .manual }.origin ≠ some .run := by decide +kernel

theorem witness_LeasesAreTakenGrantedAndReleased :
    let g := held (atSite (working .run (.wait .lease) (.acquire 0)))
    let h := held (withEntry .made .reset)
    ((g.site 0).phase = .wait .lease ∧ (g.site 0).taking = some (stepOf (.acquire 0)) ∧ (g.lease 0).holder = some 0) ∧
    ((State.reset.site 0).phase ≠ .wait .lease ∧ (State.reset.lease 0).holder ≠ some 0) ∧
    ((held .reset).lease 0).holder = some 0 ∧ (held .reset).entriesOn 0 0 = [] ∧
    ((0 : EntryId) ∈ h.entriesOn 0 0 ∧ h.route 0 = some (entry0 .made) ∧ (entry0 .made).state ≠ .breaking ∧
      ((withSource .on h).port 0).source ≠ .off) ∧
    (h.entriesOn 0 0 ≠ [] ∧ (h.port 0).source = .off ∧ (h.lease 0).holder = some 0) := by decide +kernel

theorem witness_TablesAreLoadedAndRead :
    let r := some (stepOf (.delay 5))
    let body := le16 2047 ++ flagByte true ++ [r].flatMap (fun r => (r.map stepRecordBytes).getD [])
    let f : Frame := ⟨0x08, 1, body⟩
    let busy := atSite (inState .teardown)
    ((2047 < 65536) ∧ r.any StepRecord.inRange = true ∧ 2047 + [r].length ≤ 2048 ∧ 2048 < 2047 + [r, r].length) ∧
    (Takes f busy ∧ (taken f busy).anyBusySite = true) ∧ (Takes f .reset ∧ (taken f .reset).anyBusySite = false) ∧
    ((List.replicate 20 (0 : Byte)).length % 20 = 0 ∧
      readStepRecord (((List.replicate 20 (0 : Byte)).drop (20 * 0)).take 20) = none) ∧
    ((51 : Byte) ≠ 0 ∧ read16 0xCD 7 + (51 : Byte).toNat ≤ 2048 ∧ (51 : Byte).toNat ≤ 51 ∧ 51 < (52 : Byte).toNat ∧
      2048 < read16 0xCE 7 + (51 : Byte).toNat) ∧
    (RouteDef.inRange ⟨0, .hi, [511], 0⟩ = true ∧ LimitSet.inRange (.abs (-5) 5 1 ⟨0, 0, 0⟩) = true ∧
      readRouteDef (9 :: .replicate 20 0) = none ∧ readLimitSet (9 :: .replicate 17 0) = none) := by
  unfold Takes; decide +kernel

theorem witness_CalibrationIsSetAndRead :
    read24 1 0 0 ≠ 0 ∧ read24 0 0 0 = 0 ∧ (1 : Byte).toNat ≤ 1 ∧ 5 < (6 : Byte).toNat ∧ 7 < (8 : Byte).toNat := by decide

/-- A record with two buses, the same disabled, and one that claims a bus twice. -/
def record0 : InstrRecord := { InstrRecord.powerOn with enable := true, hi := some 0, lo := some 15 }

theorem witness_InstrumentRecordsAreSet :
    let f : Frame := ⟨0x0E, 1, 0 :: instrRecordBytes record0⟩
    let on := atPort (portIn .idle none none)
    (Takes f .reset ∧ (taken f .reset).agenda = [] ∧ ((taken f .reset).lease 0).holder = none ∧
      ((taken f .reset).port 0).state = .disabled) ∧
    (Takes f on ∧ (taken f on).agenda = [] ∧ ((taken f on).lease 0).holder = none ∧ ((taken f on).port 0).state ≠ .disabled) ∧
    (Takes f (held .reset) ∧ (taken f (held .reset)).agenda = [] ∧ ((taken f (held .reset)).lease 0).holder ≠ none) := by
  unfold Takes; decide +kernel

theorem witness_InstrumentRecordsAreSet_claims :
    (record0.responseTimeout ≠ 0 ∧ record0.triggerWidth ≠ 0) ∧ record0.buses.Nodup ∧
    ¬{ record0 with lo := some 0 }.buses.Nodup ∧
    (∀ j : InstrId, j ≠ 0 → ∀ b ∈ record0.buses, b ∉ (State.reset.record j).buses) ∧
    (instrRecordBytes record0).length = 10 ∧ readInstrRecord (.replicate 10 2) = none := by decide +kernel

/-- The chain in a phase, the card at position 0 as given, every other position ABSENT. -/
def chainIn (x : ChainPhase) (c : Card) : State :=
  { State.reset with chain := { Chain.powerOn with phase := x, cards := (Vector.replicate 16 Card.powerOn).set 0 c } }
def card0 (x : CardState) : Card := { Card.powerOn with state := x, id := some 1 }

theorem witness_CardsAreSetAndReset :
    let f : Frame := ⟨0x11, 1, [0]⟩
    let s := chainIn .idle (card0 .fault)
    ((1 : Byte) ≠ 0 ∧ 15 < (16 : Byte).toNat ∧ (0 : Byte) ≠ 1) ∧
    (Takes f s ∧ (taken f s).chain.phase ≠ .discovery ∧ ((taken f s).card 0).state ≠ .absent) ∧
    (Takes f .reset ∧ (taken f .reset).chain.phase = .discovery) ∧
    (Takes f (chainIn .idle .powerOn) ∧ (taken f (chainIn .idle .powerOn)).chain.phase ≠ .discovery ∧
      ((taken f (chainIn .idle .powerOn)).card 0).state = .absent) := by unfold Takes; decide +kernel

theorem witness_WearIsRead :
    (1 ≤ (8 : Byte).toNat ∧ (8 : Byte).toNat ≤ 8 ∧ (8 : Byte).toNat + (8 : Byte).toNat ≤ 16) ∧
    (15 < (16 : Byte).toNat ∧ 8 < (9 : Byte).toNat ∧ 16 < (9 : Byte).toNat + (8 : Byte).toNat) := by decide

theorem witness_WearIsLoadedAndCounted :
    (1 ≤ (1 : Byte).toNat ∧ (1 : Byte).toNat ≤ 8 ∧ (15 : Byte).toNat + (1 : Byte).toNat ≤ 16 ∧
      (List.replicate 32 (0 : BitVec 24)).length = 32 * (1 : Byte).toNat) ∧
    Takes ⟨0x13, 1, [0, 15, 1] ++ (List.replicate 32 (0 : BitVec 24)).flatMap fun c => le24 c.toNat⟩ .reset ∧
    ((List.replicate 192 (0 : Byte)).length % 96 = 0 ∧ (List.replicate 192 (0 : Byte)).length ≠ 96 * (1 : Byte).toNat) ∧
    State.reset.wearCount 0 511 < 16777215 ∧
    16777215 ≤ { State.reset with wear := Table.empty.put 511 16777215 }.wearCount 0 511 := by
  unfold Takes; decide +kernel

theorem witness_ResultsArePostedAndFetched :
    let f : Frame := ⟨0x24, 1, [16]⟩
    let full := { posted 1 .reset with queue := { (posted 1 .reset).queue with space := [0] } }
    let posting := atSite { working .run .step (.zero ⟨0, 0, 0, 1, 0⟩) with
      meas := { Measure.empty with phase := .posting, result := some ⟨0, .noJudge, false, false, false, false, false⟩ } }
    (1 ≤ (16 : Byte).toNat ∧ (16 : Byte).toNat ≤ 16 ∧ 16 < (17 : Byte).toNat) ∧
    (Takes f .reset ∧ (taken f .reset).agenda = [] ∧ (taken f .reset).queue.posted = []) ∧
    (Takes f full ∧ (taken f full).queue.posted ≠ [] ∧ (taken f full).queue.space ≠ []) ∧
    full.queue.space = 0 :: [] ∧
    ((posting.site 0).taking = some (stepOf (.zero ⟨0, 0, 0, 1, 0⟩)) ∧
      (posting.site 0).meas.result = some ⟨0, .noJudge, false, false, false, false, false⟩ ∧
      (stepOf (.zero ⟨0, 0, 0, 1, 0⟩)).sampling = some ⟨0, 0, 1, 0, false⟩) := by unfold Takes; decide +kernel

theorem witness_DiscoveryAndRefreshBeginPasses :
    State.reset.chain.phase = .discovery ∧ State.reset.agenda = [] ∧ (chainIn .idle (card0 .active)).chain.phase ≠ .discovery ∧
    (∀ (k : CardId), ((Vector.replicate 16 (some (⟨1, 0⟩ : CardAnswer)))[k]) = some ⟨1, 0⟩) ∧
    (State.reset.chain.refresh = some ⟨0, 50000⟩ ∧ State.reset.chain.interval ≠ 0 ∧ State.reset.reaches ⟨0, 50000⟩ = true ∧
      (hurried .reset).reaches ⟨0, 50000⟩ = false) ∧
    ({ State.reset.chain with refresh := none }).refresh = none := by decide +kernel

theorem witness_PassWritesAndLatches :
    let s := chainIn .shift (card0 .active)
    (s.chain.phase = .shift ∧ s.chain.cursor ≤ (0 : CardId).val ∧ (s.card 0).state ≠ .absent ∧
      ∀ j : CardId, s.chain.cursor ≤ j.val → j < 0 → (s.card j).state = .absent) ∧
    (chainIn .latch (card0 .active)).chain.phase = .latch ∧ State.reset.chain.phase ≠ .shift ∧
    State.reset.chain.phase ≠ .latch ∧
    (∀ x ∈ [RouteState.making, .breaking],
      let r := { entry0 x with timer := some ⟨0, 0⟩ }
      { State.reset with routes := Table.empty.put 0 r }.route 0 = some r ∧ r.timer = some ⟨State.reset.time, 0⟩ ∧ r.state = x) ∧
    ((withEntry .made .reset).route 0 = some (entry0 .made) ∧ (entry0 .made).timer ≠ some ⟨0, 0⟩) := by decide +kernel

theorem witness_VerifyJudgesCards :
    let s := chainIn .verify (card0 .active)
    (s.chain.phase = .verify ∧ s.chain.cursor ≤ (0 : CardId).val ∧ (s.card 0).state ≠ .absent ∧
      ∀ j : CardId, s.chain.cursor ≤ j.val → j < 0 → (s.card j).state = .absent) ∧
    State.reset.chain.phase ≠ .verify ∧ ∀ n, (State.reset.site n).phase = .noStep := by decide +kernel

/-- What a CONNECT of definition 0 by site 0 needs: the definition, the lease, the bus, the window and the card. -/
def connectable (c : CardState) : State :=
  { held (chainIn .idle (card0 c)) with
    routeDefs := Table.empty.put 0 ⟨0, .hi, [0], 0⟩
    records := State.reset.records.set 0 { InstrRecord.powerOn with hi := some 0 }
    fixture := { Fixture.powerOn with state := .emulated, held := some ⟨⟨1, 0, 0, 0, 1⟩, some ([⟨0, 1⟩], 0)⟩ } }

theorem witness_RoutesAreConnectedAndBroken :
    let s := connectable .active
    let x : RouteDef := ⟨0, .hi, [0], 0⟩
    let full := { s with routes := ⟨(List.range 128).map fun k => (k, { entry0 .made with site := 1 })⟩ }
    let breaking := { s with routes := Table.empty.put 0 (entry0 .breaking), nodes := Table.empty.put 0 ⟨0, 0⟩ }
    State.reset.routeDefs.get 0 = none ∧ s.routeDefs.get 0 = some x ∧
    ((s.setLease 0 ⟨none, []⟩).lease 0).holder ≠ some 0 ∧ (s.lease 0).holder = some 0 ∧
    (State.reset.record 0).bus .hi = none ∧ (s.record 0).bus .hi = some 0 ∧
    (State.reset.window 0).size ≤ 0 ∧ (∀ a ∈ x.nodes, a < (s.window 0).size) ∧
    ((connectable .absent).card (cardOf 0)).state = .absent ∧ ((connectable .fault).card (cardOf 0)).state = .fault ∧
    (s.card (cardOf 0)).state = .active ∧
    ((withSource .on s).port 0).source ≠ .off ∧ (s.port 0).source = .off ∧ (unsafeAll s).safe ≠ ⟨false, false, false⟩ ∧
    s.safe = ⟨false, false, false⟩ ∧
    ((withEntry .made s).entryFor 0 0 = some 0 ∧ (withEntry .made s).route 0 = some (entry0 .made)) ∧
    (withEntry .faulted s).route 0 = some (entry0 .faulted) ∧
    (s.entryFor 0 0 = none ∧ full.freeEntry = none ∧ s.freeEntry = some 0 ∧ s.nodeState 0 = none) ∧
    (breaking.entryFor 0 0 = some 0 ∧ breaking.freeEntry = some 1 ∧ breaking.nodeState 0 = some .breaking) ∧
    (withEntry .made s).nodeState 0 = some .made ∧
    (s.routeFor 0 0 = none ∧ (withEntry .made s).routeFor 0 0 = some 0) ∧
    ((withEntry .made s).route 0 = some (entry0 .made) ∧ (entry0 .made).site = 0 ∧ (entry0 .made).state ≠ .breaking) := by
  decide +kernel

theorem witness_RoutesAreTimed :
    ((withEntry .making .reset).route 0 = some (entry0 .making) ∧ (entry0 .making).timer = some ⟨0, 5⟩) ∧
    ((withEntry .breaking .reset).route 0 = some (entry0 .breaking) ∧ (entry0 .breaking).timer = some ⟨0, 5⟩) ∧
    ((withEntry .making .reset).reaches ⟨0, 5⟩ = true ∧ (hurried (withEntry .making .reset)).reaches ⟨0, 5⟩ = false) ∧
    (withEntry .breaking .reset).reaches ⟨0, 5⟩ = true ∧ State.reset.route 0 = none := by decide +kernel

theorem witness_RoutesAreTimed_told :
    let settle := { working .run (.wait .settle) (.connect 0) with settleOn := some 0 }
    let zero := { working .run (.wait .settle) (.zero ⟨0, 0, 0, 1, 0⟩) with settleOn := some 0 }
    let releasing := atSite (working .run (.wait .release) (.release 0))
    let node := working .run (.wait .node) (.connect 0)
    (settle.phase = .wait .settle ∧ settle.settleOn = some 0 ∧ settle.taking = some (stepOf (.connect 0)) ∧
      zero.taking = some (stepOf (.zero ⟨0, 0, 0, 1, 0⟩)) ∧ node.phase ≠ .wait .settle) ∧
    ((releasing.site 0).phase = .wait .release ∧ (releasing.site 0).taking = some (stepOf (.release 0)) ∧
      (stepOf (.release 0)).kind = .release 0 ∧ (entry0 .breaking).inst = 0 ∧ releasing.routes.entries = [] ∧
      (withEntry .made releasing).route 0 = some (entry0 .made)) ∧
    (node.phase = .wait .node ∧ node.taking = some (stepOf (.connect 0)) ∧ (stepOf (.connect 0)).kind = .connect 0) ∧
    ((inState .teardown).phase ≠ .wait .release ∧ (inState .teardown).phase ≠ .wait .node) := by decide +kernel

theorem witness_WrongMessagesAreCounted :
    let s := atPort (portIn .command (some .config) (some (.site 0)))
    (s.agenda = [] ∧ (s.port 0).state ≠ .disabled ∧ (s.port 0).rxBytes = [] ∧ (s.port 0).outstanding ≠ some 4) ∧
    (State.reset.port 0).state = .disabled ∧
    (byteSum (messageCore ⟨0x81, 5, []⟩ ++ [0]) ≠ 0 ∧ 0x5A ∉ messageCore ⟨0x81, 5, []⟩ ++ [0]) := by decide +kernel

theorem witness_AckAndNakEndTheExchange :
    let s := atPort (portIn .command (some .config) (some (.site 0)))
    let t := atPort (portIn .command (some .outputOff) (some (.teardown 0)))
    (s.agenda = [] ∧ (s.port 0).state ≠ .disabled ∧ (s.port 0).rxBytes = [] ∧ (s.port 0).outstanding = some 5 ∧
      (s.port 0).awaited = some .config) ∧
    (t.agenda = [] ∧ (t.port 0).state ≠ .disabled ∧ (t.port 0).rxBytes = [] ∧ (t.port 0).outstanding = some 5 ∧
      (t.port 0).awaited = some .outputOff) := by decide +kernel

theorem witness_ValueAndIdentAreTaken :
    let s := atPort (portIn .fetching (some .read) (some (.site 0)))
    let t := atPort (portIn .offline (some .hello) none)
    (s.agenda = [] ∧ (s.port 0).state ≠ .disabled ∧ (s.port 0).rxBytes = [] ∧ (s.port 0).outstanding = some 5 ∧
      (s.port 0).awaited = some .read ∧ (s.port 0).user = some (.site 0)) ∧
    (t.agenda = [] ∧ (t.port 0).state = .offline ∧ (t.port 0).rxBytes = [] ∧ (t.port 0).outstanding = some 5 ∧
      (t.port 0).awaited = some .hello) := by decide +kernel

theorem witness_ExchangesFailCancelAndProbe :
    let p := { portIn .command (some .config) (some (.site 0)) with respTimer := some ⟨0, 9⟩ }
    (p.respTimer = some ⟨0, 9⟩ ∧ p.state = .command ∧ p.awaited ≠ none ∧ p.awaited ≠ some .cancel) ∧
    (portIn .triggered none (some (.site 0))).state = .triggered ∧ (State.reset.port 0).respTimer = none ∧
    ((portIn .command (some .cancel) none).state = .command ∧ (portIn .command (some .cancel) none).awaited = some .cancel) ∧
    ((portIn .offline none none).state = .offline ∧ { portIn .offline none none with probeTimer := some ⟨0, 9⟩ }.probeTimer = some ⟨0, 9⟩) ∧
    (State.reset.port 0).state ≠ .command ∧ (State.reset.port 0).state ≠ .offline ∧
    (∀ q ∈ [p, { portIn .offline none none with probeTimer := some ⟨0, 9⟩ }],
      (atPort q).reaches ⟨0, 9⟩ = true ∧ (hurried (atPort q)).reaches ⟨0, 9⟩ = false) := by decide +kernel

theorem witness_TriggersAndReadyAreTimed :
    (true ≠ (State.reset.port 0).rawRdy ∧ (State.reset.port 0).rawRdy = (State.reset.port 0).filteredRdy) ∧
    (Port.powerOn true).rawRdy ≠ (Port.powerOn true).filteredRdy ∧
    ({ portIn .idle none none with spacing := some (0, ⟨0, 9⟩) }.spacing = some (0, ⟨0, 9⟩) ∧ (portIn .idle none none).state = .idle) ∧
    { portIn .idle none none with pulse := some ⟨0, 9⟩ }.pulse = some ⟨0, 9⟩ ∧ (State.reset.port 0).spacing = none ∧
    (State.reset.port 0).pulse = none ∧
    ((atPort (.powerOn true)).reaches ⟨0, 4⟩ = true ∧ (hurried (atPort (.powerOn true))).reaches ⟨0, 4⟩ = false ∧
      ((State.reset.record 0).rdyFilter.toNat = 4 ∧ (Port.powerOn true).rdyChange = 0)) ∧
    (∀ p ∈ [{ portIn .idle none none with spacing := some (0, ⟨0, 9⟩) }, { portIn .idle none none with pulse := some ⟨0, 9⟩ }],
      (atPort p).reaches ⟨0, 9⟩ = true ∧ (hurried (atPort p)).reaches ⟨0, 9⟩ = false) := by decide +kernel

theorem witness_PortStepsCheckAndSend :
    let s := held (withSource .off { State.reset with
      records := State.reset.records.set 0 { InstrRecord.powerOn with sourceCapable := true } })
    (State.reset.lease 0).holder ≠ some 0 ∧ ((held .reset).lease 0).holder = some 0 ∧ ((held .reset).port 0).state = .disabled ∧
    ((s.lease 0).holder = some 0 ∧ (s.port 0).state ≠ .disabled ∧ (s.port 0).state ≠ .offline ∧ (s.port 0).state ≠ .command) ∧
    (State.reset.record 0).sourceCapable = false ∧ (s.record 0).sourceCapable = true ∧
    (unsafeAll s).safe ≠ ⟨false, false, false⟩ ∧ s.safe = ⟨false, false, false⟩ ∧ (withEntry .making s).routeMoving 0 = true ∧
    s.routeMoving 0 = false ∧ (portIn .command none none).state = .command ∧ (portIn .idle none none).state ≠ .command ∧
    (State.reset.site 0).phase ≠ .wait .port ∧
    (let w := working .run (.wait .port) (.output 0 true)
    w.phase = .wait .port ∧ w.taking = some (stepOf (.output 0 true)) ∧ (stepOf (.output 0 true)).kind = .output 0 true) := by
  decide +kernel

theorem witness_SamplesAreComputed :
    2 * ((7 : Int) - roundDiv 7 2 * 2).natAbs = 2 ∧ 0 < 2 ∧
    (-8388608 ≤ (-8388608 : Int) ∧ (16777215 : Nat) ≤ 16777215 ∧ -8388607 ≤ (8388606 : Int) ∧ (8388606 : Int) ≤ 8388606) := by
  decide

theorem witness_SampleIsAccumulated :
    Measure.empty.minimum = none ∧ Measure.empty.maximum = none ∧
    (accumulate .empty 3).minimum = some 3 ∧ (accumulate .empty 3).maximum = some 3 ∧
    [(-134217700 : Int), 134217700].length ≤ 256 ∧ ∀ v ∈ [(-134217700 : Int), 134217700], -134217700 ≤ v ∧ v ≤ 134217700 := by
  decide

theorem witness_SamplesAreReducedAndLimitsFormed :
    let m := { accumulate (accumulate .empty 3) 5 with taken := 2 }
    { m with overrange := some false }.overrange = some false ∧ { m with overrange := some true }.overrange = some true ∧
    { m with noZero := true }.noZero = true ∧
    (m.overrange = none ∧ m.noZero = false ∧ m.taken = [(5 : Int)].length + 1 ∧ m.sum = ([3, 5] : List Int).sum ∧
      m.minimum = ([3, 5] : List Int).min? ∧ m.maximum = ([3, 5] : List Int).max?) ∧
    (Vector.replicate 8 (⟨0, false⟩ : Variable))[(1 : Fin 8)].valid = false ∧
    (Vector.replicate 8 (⟨9, true⟩ : Variable))[(1 : Fin 8)].valid = true := by decide

theorem witness_ValueIsPlacedInABin :
    ((9 : Int) < 10) ∧ ((10 : Int) ≤ 21 ∧ (20 : Int) < 21) ∧ ((10 : Int) ≤ 10 ∧ (10 : Int) ≤ 20 ∧ (10 : Int) < 10 + (2 : Nat)) ∧
    ((10 : Int) ≤ 12 ∧ (12 : Int) ≤ 20 ∧ 10 + ((2 : Nat) : Int) ≤ 12 ∧ (12 : Int) ≤ 20 - (2 : Nat)) ∧
    (20 : Int) - (6 : Nat) < 10 + (6 : Nat) := by decide

/-- A MEASURE of instrument 0, of definition 0 under limit set 0. -/
def measure0 : MeasureFields := ⟨0, 0, some 0, 1, 0, .mean, some 0, some 2, true, true⟩

theorem witness_SamplingStepsCheckTheRoute :
    let r := stepOf (.measure measure0)
    let z := stepOf (.zero ⟨0, 0, 0, 1, 0⟩)
    let s := { State.reset with limits := Table.empty.put 0 (.abs 0 1 0 ⟨0, 0, 0⟩) }
    r.kind = .measure measure0 ∧ measure0.limit = some 0 ∧ State.reset.limits.get 0 = none ∧ s.limits.get 0 ≠ none ∧
    { measure0 with route := none }.route = none ∧ measure0.route = some 0 ∧ s.routeFor 0 0 = none ∧
    ((withEntry .made s).routeFor 0 0 = some 0 ∧ (withEntry .made s).route 0 = some (entry0 .made)) ∧
    ((withEntry .making s).routeFor 0 0 = some 0 ∧ (withEntry .making s).route 0 = some (entry0 .making)) ∧
    ((withEntry .faulted s).routeFor 0 0 = some 0 ∧ (withEntry .faulted s).route 0 = some (entry0 .faulted)) ∧
    z.kind = .zero ⟨0, 0, 0, 1, 0⟩ := by decide +kernel

theorem witness_SampleIsTaken :
    let sampling := { working .run .step (.measure { measure0 with samples := 2 }) with
      meas := { Measure.empty with phase := .sampling, zero := some 0 } }
    let x : Sampling := ⟨0, 0, 2, 0, true⟩
    let m := addSample sampling.meas .powerOn true 5 false false 0 0
    (sampling.taking = some (stepOf (.measure { measure0 with samples := 2 })) ∧
      (stepOf (.measure { measure0 with samples := 2 })).sampling = some x) ∧
    sampling.meas.phase = .sampling ∧ (working .run .step (.delay 0)).meas.phase ≠ .sampling ∧
    (m.taken < x.samples ∧ m.overrange = none ∧ m.noZero = false) ∧
    x.samples ≤ (addSample m .powerOn true 5 false false 0 0).taken ∧
    (addSample sampling.meas .powerOn true 8388607 false false 0 0).overrange ≠ none := by decide +kernel

theorem witness_SamplingStepsComplete :
    let s := atSite { working .run .step (.measure measure0) with meas := { Measure.empty with entry := some 0 } }
    let z := withEntry .made (atSite { working .manual .step (.zero ⟨0, 0, 0, 1, 0⟩) with
      meas := { Measure.empty with entry := some 0 } })
    ((s.site 0).taking = some (stepOf (.measure measure0)) ∧ (s.site 0).state = .run) ∧
    ((z.site 0).taking = some (stepOf (.zero ⟨0, 0, 0, 1, 0⟩)) ∧ (z.site 0).state = .manual) ∧
    ((z.site 0).meas.entry = some 0 ∧ z.route 0 = some (entry0 .made) ∧ Bin.noJudge ≠ .invalid) := by decide +kernel

/-- A line whose raw level differs from its filtered level, about to become active or inactive. -/
def lineTo (active : Bool) : InputLine := { InputLine.powerOn active with raw := !active }

theorem witness_LinesAreFilteredAndUsabilityJudged :
    let xs : Vector (Byte × Bool × EdgeSelect) 17 := .replicate 17 (10, false, .press)
    let body := xs.toList.flatMap fun x => [x.1, if x.2.1 then 0 else 1, if x.2.2 = .press then 0 else 1]
    (inState .idle).state = .idle ∧ (inState .run).state = .run ∧ true ≠ (State.reset.line 0).raw ∧
    ((16 : LineId) = 16 ∧ State.reset.fixture.busy = true) ∧ (0 : LineId) ≠ 16 ∧
    (decide ((State.reset.line 0).filtered = (State.reset.line 0).polarity) = (State.reset.line 0).active) ∧
    (decide ((lineTo true).raw = (lineTo true).polarity) ≠ (lineTo true).active) ∧
    Takes ⟨0x2F, 1, body⟩ .reset ∧
    ((List.replicate 51 (2 : Byte)).length = 51 ∧ 1 % 3 ≠ 0 ∧ 1 < ((List.replicate 51 (2 : Byte)).getD 1 0).toNat) := by
  unfold Takes; decide +kernel

theorem witness_SeatAndStartChangesAreHandedOn :
    let s := (State.reset.setLine (seatLine 0) (lineTo true)).setLine (startLine 0) (lineTo true)
    let x := s.line (startLine 0)
    let enabled := (atSite { inState .idle with startEnable := true })
    (State.reset.line (seatLine 0)).raw = (State.reset.line (seatLine 0)).filtered ∧
    (x.raw ≠ x.filtered ∧ decide (x.raw = x.polarity) ≠ x.active ∧ x.edge = .press ∧ decide (x.raw = x.polarity) = true) ∧
    ({ x with active := true }.raw ≠ x.filtered ∧ decide (x.raw = x.polarity) = { x with active := true }.active) ∧
    ¬({ x with edge := .release }.edge = .press) ∧
    ((s.line (seatLine 0)).raw ≠ (s.line (seatLine 0)).filtered) ∧
    ((enabled.site 0).startEnable = true ∧ enabled.safe = ⟨false, false, false⟩ ∧ (enabled.site 0).state = .idle ∧
      enabled.runCount < enabled.free) ∧ (State.reset.site 0).startEnable ≠ true ∧
    (s.reaches ⟨0, 10000⟩ = true ∧ (hurried s).reaches ⟨0, 10000⟩ = false ∧ x.lastChange = 0 ∧ x.filter.toNat * 1000 = 10000) := by
  decide +kernel

theorem witness_LidChangesBeginLoads :
    let opening := lineTo false
    let closing := lineTo true
    State.reset.fixture.busy = true ∧ { State.reset.fixture with busy := false }.busy = false ∧
    (opening.raw ≠ opening.filtered ∧ opening.raw ≠ opening.polarity ∧ opening.active = true) ∧
    (closing.raw ≠ closing.filtered ∧ closing.raw = closing.polarity ∧ closing.active = false) ∧
    { closing with active := true }.active = decide (closing.raw = closing.polarity) ∧
    { opening with active := false }.active = decide (opening.raw = opening.polarity) ∧
    (∀ x ∈ [opening, closing],
      let s := (State.reset.setLine 16 x).setFixture { Fixture.powerOn with state := .valid }
      s.fixture.busy = false ∧ s.reaches ⟨x.lastChange, x.filter.toNat * 1000⟩ = true ∧
        (hurried s).reaches ⟨x.lastChange, x.filter.toNat * 1000⟩ = false) ∧
    State.reset.routes.entries = [] ∧ (withEntry .made .reset).routes.entries ≠ [] := by decide +kernel

def oneSite (format : Byte) : IdentityHeader := ⟨format, 2, 3, 4, 1⟩

theorem witness_LoadsEndInTheirChecks :
    let good : List Window := [⟨0, 512⟩]
    let bad : List Window := [⟨1, 512⟩]
    let bytes := fun ws : List Window => headerBytesOf (oneSite 1) ++ ws.flatMap fun w => le16 w.base ++ le16 w.size
    let s := State.reset.setFixture { State.reset.fixture with loadStep := some .body, headerBytes := headerBytesOf (oneSite 1) }
    (State.reset.fixture.state = .loading ∧ State.reset.fixture.loadStep = some .header) ∧
    ((2 : Byte) ≠ 1 ∧ 8 < (9 : Byte).toNat ∧ 1 ≤ (8 : Byte).toNat ∧ (8 : Byte).toNat ≤ 8) ∧
    (s.fixture.state = .loading ∧ s.fixture.loadStep = some .body ∧ s.fixture.headerBytes = headerBytesOf (oneSite 1) ∧
      (oneSite 1).siteCount.toNat = good.length ∧ (oneSite 1).siteCount.toNat = bad.length) ∧
    crc16 (bytes good) ≠ crc16 (bytes bad) ∧
    ((∀ w ∈ good, 1 ≤ w.size ∧ w.base + w.size ≤ 512) ∧ ¬(∀ w ∈ bad, 1 ≤ w.size ∧ w.base + w.size ≤ 512)) := by
  decide +kernel

theorem witness_IdentitiesAreDefinedAndReloaded :
    let record := headerBytesOf (oneSite 1) ++ [(⟨0, 512⟩ : Window)].flatMap fun w => le16 w.base ++ le16 w.size
    let f : Frame := ⟨0x29, 1, record ++ crcBytes record⟩
    let g : Frame := ⟨0x2A, 1, []⟩
    let s := State.reset.setFixture { State.reset.fixture with state := .valid }
    let busy := (atSite (inState .run)).setFixture { State.reset.fixture with state := .valid }
    let link := State.reset.setFixture { State.reset.fixture with state := .valid, owner := .link }
    (Takes f .reset ∧ (taken f .reset).fixture.state = .loading) ∧
    (Takes f busy ∧ (taken f busy).fixture.state ≠ .loading ∧ (taken f busy).anyBusySite = true) ∧
    (Takes f s ∧ (taken f s).fixture.state ≠ .loading ∧ (taken f s).anyBusySite = false) ∧
    (Takes g .reset ∧ (taken g .reset).fixture.state = .loading) ∧
    (Takes g link ∧ (taken g link).fixture.state ≠ .loading ∧ (taken g link).fixture.owner = .link) ∧
    (Takes g s ∧ (taken g s).fixture.state ≠ .loading ∧ (taken g s).anyBusySite = false ∧
      (taken g s).fixture.owner = .monitor) := by unfold Takes; decide +kernel

theorem witness_MemoryIsTakenAndGiven :
    let f : Frame := ⟨0x2B, 1, []⟩
    let g : Frame := ⟨0x2C, 1, []⟩
    let opened := State.reset.setLine 16 (InputLine.powerOn true)
    let link := State.reset.setFixture { State.reset.fixture with owner := .link }
    (Takes f .reset ∧ ((taken f .reset).line 16).active = true) ∧
    (Takes f opened ∧ ((taken f opened).line 16).active = false ∧ (taken f opened).anyBusySite = false) ∧
    (Takes g link ∧ (taken g link).fixture.owner = .link) ∧ (Takes g .reset ∧ (taken g .reset).fixture.owner = .monitor) := by
  unfold Takes; decide +kernel

theorem witness_MemoryTransfersRun :
    let f : Frame := ⟨0x2D, 1, [0xFF, 7, 1]⟩
    let link := State.reset.setFixture { State.reset.fixture with owner := .link }
    (read16 0xFF 7 ≤ 2047 ∧ 1 ≤ (1 : Byte).toNat ∧ (1 : Byte).toNat ≤ 64) ∧ read16 0xFF 7 + (1 : Byte).toNat ≤ 2048 ∧
    2048 < read16 0xFF 7 + (2 : Byte).toNat ∧ ¬(read16 0 8 ≤ 2047) ∧
    (Takes f link ∧ (taken f link).fixture.owner = .link) ∧ (Takes f .reset ∧ (taken f .reset).fixture.owner = .monitor) ∧
    (read16 15 0 % 16 + [(0 : Byte)].length ≤ 16 ∧ ¬(read16 15 0 % 16 + [(0 : Byte), 0].length ≤ 16)) ∧
    { State.reset.link with inProgress := some (.fixmem 0x2D 1) }.inProgress = some (.fixmem 0x2D 1) ∧
    { State.reset.fixture with transfer := some (.read 1) }.transfer = some (.read [(9 : Byte)].length) ∧
    { State.reset.fixture with transfer := some (.write 4) }.transfer = some (.write 4) ∧ 3 < 4 ∧
    18 < 4 + 15 ∧ (2 < [(0 : Byte), 0, 0].length) ∧ 18 < 19 ∧ 19 ≤ 19 ∧
    (let s := State.reset.setFixture { State.reset.fixture with transfer := some (.poll 4 19 ⟨0, 500⟩) }
    s.fixture.transfer = some (.poll 4 19 ⟨0, 500⟩) ∧ s.reaches ⟨0, 500⟩ = true ∧
      (hurried s).reaches ⟨0, 500⟩ = false) := by unfold Takes; decide +kernel

theorem witness_RecordsReadBackAsWritten :
    (stepOf (.measure measure0)).inRange = true ∧ RouteDef.inRange ⟨5, .slo, [0, 511], 9⟩ = true ∧
    LimitSet.inRange (.rel 7 10000 0 134217727 ⟨1, 0⟩) = true ∧
    readStepRecord ([0x0C, 0, 0, 0xFE, 0xFF, 0xFF, 0xFF] ++ .replicate 13 0) = some ⟨0, .chainEnd, none, .chainEnd⟩ ∧
    (readRouteDef ([5, 3, 1, 0, 0, 0xFF, 1] ++ .replicate 14 0) = some (some ⟨5, .slo, [511], 0⟩) ∧
      ([5, 3, 1, 0, 0, 0xFF, 1] ++ .replicate 14 (0 : Byte)).length = 21) ∧
    readLimitSet ([1, 0, 0, 0, 0, 0, 1] ++ .replicate 11 0) = some (some (.abs 0 1 0 ⟨0, 0, 0⟩)) := by decide +kernel

theorem witness_StepsKeepTheResultReserve :
    Reserve (posted 1023 (atSite (inState .run))) ∧ step State.reset = .next { State.reset with time := 1 } := by
  refine ⟨by unfold Reserve; decide +kernel, rfl⟩

theorem witness_StepsKeepBoundsClaimsAndRunNumbers :
    LinkBounds State.reset ∧ ClaimsSound State.reset ∧ PortsSound State.reset ∧ QueuesHeld State.reset ∧
    RunsNumbered (atSite (inState .run)) := by
  refine ⟨⟨by decide, by decide, fun h => ?_⟩, ?_, ?_, ?_, ?_⟩
  · obtain ⟨_, _, h⟩ := h; cases h
  · unfold ClaimsSound; decide
  · unfold PortsSound; decide
  · unfold QueuesHeld; decide
  · unfold RunsNumbered; decide

theorem witness_StepsKeepTheStoresCanonical :
    StoresSound { State.reset with steps := Table.empty.put 2047 (stepOf .chainEnd), wear := Table.empty.put 8191 16777215 } := by
  unfold StoresSound Table.within; decide

/-- A state one tick after reset meets every invariant. -/
theorem witness_StepsKeepTheRoutesSound : Sound { State.reset with time := 1 } where
  reserve := by unfold Reserve; decide
  link := ⟨by decide, by decide, fun h => by obtain ⟨_, _, h⟩ := h; cases h⟩
  stores := by unfold StoresSound Table.within; decide
  claims := by unfold ClaimsSound; decide
  ports := by unfold PortsSound; decide
  queues := by unfold QueuesHeld; decide
  runs := by unfold RunsNumbered; decide
  routes :=
    { claimed := fun e r h => by cases h
      image := fun k place => by
        have h0 : ∀ k : CardId, (State.reset.image)[k] = 0 := by
          intro k; simp [State.reset, State.powerOnValues, Matrix.allOpen]
        constructor
        · intro h
          rw [show ({ State.reset with time := 1 } : State).image = State.reset.image from rfl, h0 k] at h
          simp at h
        · rintro ⟨e, r, p, h, _⟩; cases h
      windows := fun h => absurd h (by decide) }

end Sys2Proof.Tests
end

section
/-! What the operations of the block keep, said once for every invariant but that of the routes: `Keeps` relates a state to one
that has every invariant the first has, `Quiet` moreover leaves the place for the reply of a request that the link has taken.
The builders below give them for a change of one part of the state. -/

namespace Sys2Proof.Machine

/-- The transmit queue has a free place that no FIXMEM request in progress owns: what the link makes sure of before it takes a
request (R194, R195). -/
def Room (s : State) : Prop :=
  s.link.tx.length < 16 ∧ ∀ kind tag, s.link.inProgress ≠ some (.fixmem kind tag)

/-- Whatever invariant `s` has, `t` has too. -/
structure Keeps (s t : State) : Prop where
  reserve : Reserve s → Reserve t
  link : LinkBounds s → LinkBounds t
  stores : StoresSound s → StoresSound t
  claims : ClaimsSound s → ClaimsSound t
  ports : PortsSound s → PortsSound t
  queues : QueuesHeld s → QueuesHeld t
  runs : RunsNumbered s → RunsNumbered t

/-- No reply is sent on the way from `s` to `t`, and every invariant is kept. -/
structure Quiet (s t : State) : Prop extends Keeps s t where
  room : Room s → Room t

variable {s t u : State}

theorem Keeps.refl (s : State) : Keeps s s := ⟨id, id, id, id, id, id, id⟩

theorem Keeps.trans (h : Keeps s t) (k : Keeps t u) : Keeps s u :=
  ⟨k.reserve ∘ h.reserve, k.link ∘ h.link, k.stores ∘ h.stores, k.claims ∘ h.claims, k.ports ∘ h.ports,
    k.queues ∘ h.queues, k.runs ∘ h.runs⟩

theorem Quiet.refl (s : State) : Quiet s s := ⟨.refl s, id⟩

theorem Quiet.trans (h : Quiet s t) (k : Quiet t u) : Quiet s u :=
  ⟨h.toKeeps.trans k.toKeeps, k.room ∘ h.room⟩

/-- The last operation first: what it starts from is read off it. -/
theorem Quiet.after (k : Quiet t u) (h : Quiet s t) : Quiet s u := h.trans k

theorem Keeps.after (k : Keeps t u) (h : Keeps s t) : Keeps s u := h.trans k

/-- A branch is quiet when both its sides are. -/
theorem Quiet.ite {c : Prop} [Decidable c] (ht : c → Quiet s t) (hu : ¬c → Quiet s u) :
    Quiet s (if c then t else u) := by
  split
  · exact ht ‹_›
  · exact hu ‹_›

theorem Keeps.ite {c : Prop} [Decidable c] (ht : c → Keeps s t) (hu : ¬c → Keeps s u) :
    Keeps s (if c then t else u) := by
  split
  · exact ht ‹_›
  · exact hu ‹_›

/-- A fold of quiet operations is quiet. -/
theorem Quiet.foldl {α : Type} (f : State → α → State) (xs : List α) (s : State)
    (hone : ∀ s a, a ∈ xs → Quiet s (f s a)) : Quiet s (xs.foldl f s) := by
  induction xs generalizing s with
  | nil => exact .refl s
  | cons x rest ih =>
    exact (hone s x List.mem_cons_self).trans (ih _ fun s a ha => hone s a (List.mem_cons_of_mem x ha))

/-! ### A change of parts that no invariant here speaks of -/

theorem Quiet.free (s : State) (time cal image chain lines fixture safe orders agenda freeIndex pending) :
    Quiet s { s with
      time := time, cal := cal, image := image, chain := chain, lines := lines, fixture := fixture, safe := safe,
      orders := orders, agenda := agenda, freeIndex := freeIndex, pending := pending } :=
  ⟨⟨id, id, id, id, id, id, id⟩, id⟩

theorem Quiet.setTime (s : State) (x : Time) : Quiet s { s with time := x } := .free s ..

theorem Quiet.setChain (s : State) (c : Chain) : Quiet s (s.setChain c) := .free s ..

theorem Quiet.setCard (s : State) (k : CardId) (c : Card) : Quiet s (s.setCard k c) := .free s ..

theorem Quiet.setFixture (s : State) (f : Fixture) : Quiet s (s.setFixture f) := .free s ..

theorem Quiet.setLine (s : State) (l : LineId) (x : InputLine) : Quiet s (s.setLine l x) := .free s ..

theorem Quiet.setAgenda (s : State) (a : List (SiteId × Todo)) : Quiet s { s with agenda := a } := .free s ..

/-! ### The link -/

/-- The link changes without a reply: the buffers stay inside their bounds and no FIXMEM request becomes one in progress. -/
theorem Quiet.setLink (s : State) (l : Link) (hrx : l.rx.length ≤ s.link.rx.length ∨ l.rx.length ≤ 2)
    (htx : l.tx.length ≤ s.link.tx.length ∨ l.tx.length < 16)
    (hp : ∀ kind tag, l.inProgress = some (.fixmem kind tag) → s.link.inProgress = some (.fixmem kind tag)) :
    Quiet s (s.setLink l) where
  reserve := id
  link := by
    rintro ⟨h1, h2, h3⟩
    refine ⟨show l.rx.length ≤ 2 by omega, show l.tx.length ≤ 16 by omega, ?_⟩
    rintro ⟨kind, tag, h⟩
    have := h3 ⟨kind, tag, hp kind tag h⟩
    exact show l.tx.length < 16 by omega
  stores := id
  claims := id
  ports := id
  queues := id
  runs := id
  room := by
    rintro ⟨h1, h2⟩
    exact ⟨show l.tx.length < 16 by omega, fun kind tag h => h2 kind tag (hp kind tag h)⟩

/-- A reply takes the place that was kept for it (R195). -/
theorem Keeps.send (f : Frame) (h : Room s) : Keeps s (send f s) where
  reserve := id
  link := by
    rintro ⟨h1, -, -⟩
    refine ⟨h1, ?_, fun ⟨kind, tag, hp⟩ => (h.2 kind tag hp).elim⟩
    have := h.1
    show (s.link.tx ++ [f]).length ≤ 16
    simp only [List.length_append, List.length_singleton]
    omega
  stores := id
  claims := id
  ports := id
  queues := id
  runs := id

/-- A FIXMEM request that stays in progress keeps the place for its reply (R194, R195). -/
theorem Keeps.hold (kind tag : Byte) (h : Room s) :
    Keeps s (s.setLink { s.link with inProgress := some (.fixmem kind tag) }) where
  reserve := id
  link := fun ⟨h1, h2, _⟩ => ⟨h1, h2, fun _ => h.1⟩
  stores := id
  claims := id
  ports := id
  queues := id
  runs := id

/-- The reply of a FIXMEM request that was in progress takes the place kept for it (R176, R195). -/
theorem Quiet.fixmemReply (f : Frame) (kind tag : Byte) (h : s.link.inProgress = some (.fixmem kind tag)) :
    Quiet s (Machine.send f (s.setLink { s.link with inProgress := none })) where
  reserve := id
  link := by
    rintro ⟨h1, -, h3⟩
    refine ⟨h1, ?_, fun ⟨_, _, hp⟩ => by cases hp⟩
    have := h3 ⟨kind, tag, h⟩
    show (s.link.tx ++ [f]).length ≤ 16
    simp only [List.length_append, List.length_singleton]
    omega
  stores := id
  claims := id
  ports := id
  queues := id
  runs := id
  room := fun hr => (hr.2 kind tag h).elim

/-! ### The sites -/

/-- One place of a list of different places takes another truth value: the count changes by that value. -/
theorem countP_change {α : Type} [DecidableEq α] (p q : α → Bool) (xs : List α) (x : α) (hd : xs.Nodup) (hx : x ∈ xs)
    (h : ∀ y, y ≠ x → q y = p y) : xs.countP q + (p x).toNat = xs.countP p + (q x).toNat := by
  have perm := List.perm_cons_erase hx
  have rest : (xs.erase x).countP q = (xs.erase x).countP p := by
    refine List.countP_congr fun y hy => ?_
    rw [h y ((hd.mem_erase_iff).1 hy).1]
  rw [perm.countP_eq q, perm.countP_eq p, List.countP_cons, List.countP_cons, rest]
  cases p x <;> cases q x <;> simp

theorem mem_allSites (n : SiteId) : n ∈ allSites := by revert n; decide

theorem mem_allInsts (i : InstrId) : i ∈ allInsts := by revert i; decide

theorem runCount_setSite (s : State) (n : SiteId) (c : Site) :
    (s.setSite n c).runCount + (s.site n).inRun.toNat = s.runCount + c.inRun.toNat := by
  have key := countP_change (fun m => (s.site m).inRun) (fun m => ((s.setSite n c).site m).inRun) allSites n (by decide)
    (mem_allSites n) fun m hm => by rw [State.setSite_site_other s n c m hm.symm]
  simpa only [State.runCount, ← List.countP_eq_length_filter, State.setSite_site_same] using key

theorem RunsNumbered.setSite (h : RunsNumbered s) (n : SiteId) (c : Site) (hc : c.inRun = true → c.runNumber ≠ 0) :
    RunsNumbered (s.setSite n c) := by
  intro m hm
  by_cases e : n = m
  · subst e
    rw [State.setSite_site_same] at hm ⊢
    exact hc hm
  · rw [State.setSite_site_other s n c m e] at hm ⊢
    exact h m hm

/-- A site context changes and its site does not join those in a run. -/
theorem Quiet.setSite (s : State) (n : SiteId) (c : Site)
    (h : c.inRun = true → (s.site n).inRun = true ∧ c.runNumber = (s.site n).runNumber) : Quiet s (s.setSite n c) where
  reserve := by
    intro hr
    have count := runCount_setSite s n c
    have le : c.inRun.toNat ≤ (s.site n).inRun.toNat := by
      cases hc : c.inRun
      · simp
      · simp [(h hc).1]
    have := show s.queue.posted.length + s.runCount ≤ 1024 from hr
    show s.queue.posted.length + (s.setSite n c).runCount ≤ 1024
    omega
  link := id
  stores := id
  claims := id
  ports := id
  queues := id
  runs := fun hr => hr.setSite n c fun hc => (h hc).2 ▸ hr n (h hc).1
  room := id

/-- A change of a site context outside its state, its origin and its run number. -/
theorem Quiet.siteFields (s : State) (n : SiteId) (c : Site) (h1 : c.state = (s.site n).state)
    (h2 : c.origin = (s.site n).origin) (h3 : c.runNumber = (s.site n).runNumber) : Quiet s (s.setSite n c) :=
  .setSite s n c fun h => ⟨by simpa only [Site.inRun, h1, h2] using h, h3⟩

/-- A site context whose site is in no run afterwards. -/
theorem Quiet.siteRests (s : State) (n : SiteId) (c : Site) (h : c.inRun = false) : Quiet s (s.setSite n c) :=
  .setSite s n c fun hc => absurd hc (by simp [h])

/-! ### The result queue -/

/-- The queue changes and holds no more records than before. -/
theorem Quiet.setQueue (s : State) (q : ResultQueue) (h : q.posted.length ≤ s.queue.posted.length) :
    Quiet s { s with queue := q } where
  reserve := fun hr => le_trans (Nat.add_le_add_right h _) hr
  link := id
  stores := id
  claims := id
  ports := id
  queues := id
  runs := id
  room := id

/-! ### The leases -/

theorem Quiet.leases (s : State) (ls : Vector Lease 6) (h : QueuesHeld s → QueuesHeld { s with leases := ls }) :
    Quiet s { s with leases := ls } :=
  ⟨⟨id, id, id, id, id, h, id⟩, id⟩

/-- One lease changes; it has a holder or nobody waits for it. -/
theorem Quiet.setLease (s : State) (i : InstrId) (l : Lease) (h : l.holder = none → l.queue = []) :
    Quiet s (s.setLease i l) := by
  refine .leases s _ fun hq j hj => ?_
  change ((s.setLease i l).lease j).holder = none at hj
  show ((s.setLease i l).lease j).queue = []
  by_cases e : i = j
  · subst e
    rw [State.setLease_lease_same] at hj ⊢
    exact h hj
  · rw [State.setLease_lease_other s i l j e] at hj ⊢
    exact hq j hj

/-! ### The ports -/

/-- What `PortsSound` says of one port under its record (R103, R113). -/
def Port.soundUnder (r : InstrRecord) (p : Port) : Prop :=
  (r.sourceCapable = false → p.source = .off) ∧ p.failures ≤ 3

theorem portsSound_iff : PortsSound s ↔ ∀ i, (s.port i).soundUnder (s.record i) := Iff.rfl

theorem Quiet.setPort (s : State) (i : InstrId) (p : Port)
    (h : (s.port i).soundUnder (s.record i) → p.soundUnder (s.record i)) : Quiet s (s.setPort i p) where
  reserve := id
  link := id
  stores := id
  claims := id
  ports := by
    intro hp j
    show ((s.setPort i p).port j).soundUnder (s.record j)
    by_cases e : i = j
    · subst e
      rw [State.setPort_port_same]
      exact h (hp i)
    · rw [State.setPort_port_other s i p j e]
      exact hp j
  queues := id
  runs := id
  room := id

/-- A change of a port outside its source state and its failure count. -/
theorem Quiet.portFields (s : State) (i : InstrId) (p : Port) (h1 : p.source = (s.port i).source)
    (h2 : p.failures = (s.port i).failures) : Quiet s (s.setPort i p) :=
  .setPort s i p fun h => ⟨fun hc => h1.trans (h.1 hc), h2 ▸ h.2⟩

/-! ### The stores -/

theorem Quiet.setTables (s : State) (steps : Table StepRecord) (routeDefs : Table RouteDef) (limits : Table LimitSet)
    (hs : s.steps.within 2048 → steps.within 2048) (hr : s.routeDefs.within 256 → routeDefs.within 256)
    (hl : s.limits.within 256 → limits.within 256) :
    Quiet s { s with steps := steps, routeDefs := routeDefs, limits := limits } where
  reserve := id
  link := id
  stores := fun ⟨h1, h2, h3, h⟩ => ⟨hs h1, hr h2, hl h3, h⟩
  claims := id
  ports := id
  queues := id
  runs := id
  room := id

theorem Quiet.routing (s : State) (routes : Table LiveRoute) (nodes : Table NodeClaim) (image : Matrix)
    (hr : s.routes.within 128 → routes.within 128) (hn : s.nodes.wf = true → nodes.wf = true) :
    Quiet s { s with routes := routes, nodes := nodes, image := image } where
  reserve := id
  link := id
  stores := fun ⟨h1, h2, h3, h4, h5, h6⟩ => ⟨h1, h2, h3, hr h4, hn h5, h6⟩
  claims := id
  ports := id
  queues := id
  runs := id
  room := id

/-- An entry of the live route list is written. -/
theorem Quiet.putRoute (s : State) (e : EntryId) (r : LiveRoute) : Quiet s (s.setRoutes (s.routes.put e.val r)) :=
  .routing s _ s.nodes s.image (fun h => Table.within_put _ _ _ r h e.isLt) id

theorem Quiet.wear (s : State) (k place count : Nat) (hk : k < 16) (hp : place < 512) (hc : count ≤ 16777215) :
    Quiet s { s with wear := s.wear.assign (512 * k + place) (if count = 0 then none else some count) } where
  reserve := id
  link := id
  stores := by
    rintro ⟨h1, h2, h3, h4, h5, h6, h7⟩
    refine ⟨h1, h2, h3, h4, h5, Table.within_assign _ _ _ _ h6 (by omega), ?_⟩
    intro e he
    by_cases h0 : count = 0
    · simp only [h0, if_true, Table.assign, Table.erase, List.mem_filter] at he
      exact h7 e he.1
    · simp only [h0, if_false, Table.assign, Table.put] at he
      rcases mem_insertRow _ _ _ _ he with rfl | he
      · exact ⟨by omega, hc⟩
      · exact h7 e he
  claims := id
  ports := id
  queues := id
  runs := id
  room := id

end Sys2Proof.Machine
end

section
/-! The operations of the blocks are quiet, in the order in which the model defines them: notices, safe causes, usability, the
relay chain, the routes, the ports and what the steps and teardowns are made of. -/

namespace Sys2Proof.Machine

variable (s : State)

/-! ### Counters, notices, safe causes -/

theorem countLink_quiet (k : LinkCounter) : Quiet s (countLink k s) :=
  .setLink s _ (.inl le_rfl) (.inl le_rfl) fun _ _ => id

theorem countWatchdog_quiet (k : WatchdogCounter) : Quiet s (countWatchdog k s) :=
  .setLink s _ (.inl le_rfl) (.inl le_rfl) fun _ _ => id

theorem notice_quiet (kind : Byte) (body : List Byte) : Quiet s (notice kind body s) := by
  rcases notice_cases s kind body with ⟨h, e⟩ | ⟨-, e⟩ <;> rw [e]
  · refine .setLink s _ (.inl le_rfl) (.inr ?_) fun _ _ => id
    simp only [List.length_append, List.length_singleton]
    omega
  · exact countLink_quiet s .noticeLost

theorem orderAll_quiet (c : Cause) : Quiet s (orderAll c s) := .free s ..

theorem safeAdd_quiet (c : SafeCause) : Quiet s (safeAdd c s) := by
  have h : Quiet s (safeNotice c true { s with safe := s.safe.assign true c }) :=
    .after (notice_quiet ..) (.free s ..)
  exact .ite (fun _ => .refl s) fun _ => .ite (fun _ => h) fun _ => h.trans (orderAll_quiet _ _)

theorem safeRemove_quiet (c : SafeCause) : Quiet s (safeRemove c s) :=
  .ite (fun _ => .after (notice_quiet ..) (.free s ..)) fun _ => .refl s

/-! ### Usability -/

theorem restState_rests (n : SiteId) : s.restState n = .idle ∨ s.restState n = .unseated := by
  unfold State.restState
  split <;> simp

theorem Site.inRun_of_rests (c : Site) (h : c.state = .idle ∨ c.state = .unseated) : c.inRun = false := by
  rcases h with h | h <;> simp [Site.inRun, h]

theorem judgeSite_quiet (n : SiteId) : Quiet s (judgeSite s n) := by
  rcases judgeSite_cases s n with h | h <;> rw [h]
  · exact .refl s
  · exact .siteRests s n _ (Site.inRun_of_rests _ (restState_rests s n))

theorem judgeAll_quiet : Quiet s (judgeAll s) := .foldl _ _ s fun s n _ => judgeSite_quiet s n

/-! ### The relay chain -/

theorem beginPass_quiet : Quiet s (beginPass s) := by
  simp only [beginPass]
  split
  · exact .setChain s _
  · exact .after (.setChain _ _) (.setChain s _)

theorem chainKick_quiet : Quiet s (chainKick s) := .ite (fun _ => beginPass_quiet s) fun _ => .refl s

theorem setWear_quiet (k : CardId) (place count : Nat) (hp : place < 512) (hc : count ≤ 16777215) :
    Quiet s (setWear k place count s) := .wear s k.val place count k.isLt hp hc

theorem countWear_quiet (k : CardId) (place : Nat) (hp : place < 512) : Quiet s (countWear k s place) := by
  simp only [countWear]
  split
  · exact .refl s
  · have hw := setWear_quiet s k place (s.wearCount k place + 1) hp (by omega)
    split
    · exact .after (notice_quiet ..) hw
    · exact hw

theorem lt_of_mem_setPlaces {w : BitVec 512} {place : Nat} (h : place ∈ setPlaces w) : place < 512 := by
  rw [setPlaces, List.mem_filter, List.mem_range] at h
  exact h.1

theorem countNoted_quiet : Quiet s (countNoted s) := by
  unfold countNoted
  refine .foldl _ _ s fun s' k _ => .foldl _ _ s' fun s'' place h => ?_
  exact countWear_quiet s'' k place (lt_of_mem_setPlaces h)

/-! ### The routes -/

theorem Table.wf_foldl {α β : Type} (f : Table α → β → Table α) (xs : List β) (t : Table α)
    (hone : ∀ t x, t.wf = true → (f t x).wf = true) (h : t.wf = true) : (xs.foldl f t).wf = true := by
  induction xs generalizing t with
  | nil => exact h
  | cons x rest ih => exact ih _ (hone t x h)

theorem createRoute_quiet (e : EntryId) (r : LiveRoute) : Quiet s (createRoute e r s) := by
  refine .after (chainKick_quiet _) (.after (.setChain _ _)
    (.routing s _ _ _ (fun h => Table.within_put _ _ _ r h e.isLt) ?_))
  exact Table.wf_foldl _ _ _ fun t p => Table.wf_put t p _

theorem breakEntry_quiet (e : EntryId) : Quiet s (breakEntry s e) := by
  by_cases h : ∃ r, s.route e = some r ∧ r.live = true
  · obtain ⟨r, hr, hl⟩ := h
    rw [breakEntry_live s e r hr hl]
    exact .after (.setChain _ _) (.routing s _ _ _ (fun h => Table.within_put _ _ _ _ h e.isLt) id)
  · rw [breakEntry_other s e fun r hr => by simpa using fun hl => h ⟨r, hr, hl⟩]
    exact .refl s

theorem breakEntries_quiet (es : List EntryId) : Quiet s (breakEntries es s) :=
  .ite (fun _ => .refl s) fun _ => .after (chainKick_quiet _) (.foldl _ _ s fun s e _ => breakEntry_quiet s e)

theorem completeEntry_quiet (snapshot : Matrix) (e : EntryId) : Quiet s (completeEntry snapshot s e) := by
  unfold completeEntry
  split
  · exact .ite (fun _ => .ite (fun _ => .putRoute s ..) fun _ => .ite (fun _ => .putRoute s ..) fun _ => .refl s)
      fun _ => .refl s
  · exact .refl s

theorem routesPassCompletion_quiet : Quiet s (routesPassCompletion s) :=
  .foldl _ _ s fun s e _ => completeEntry_quiet s _ e

theorem faultEntry_quiet (k : CardId) (e : EntryId) : Quiet s (faultEntry k s e) := by
  unfold faultEntry
  split
  · exact .ite (fun _ => .putRoute s ..) fun _ => .refl s
  · exact .refl s

theorem freeRoute_quiet (e : EntryId) (r : LiveRoute) : Quiet s (freeRoute e r s) :=
  .routing s _ _ s.image (Table.within_erase _ _ _) (Table.wf_foldl _ _ _ Table.wf_erase)

/-! ### The ports -/

theorem transmit_quiet (i : InstrId) (kind : Byte) (body : List Byte) : Quiet s (transmit i kind body s) :=
  .portFields s i _ rfl rfl

theorem sendAwaiting_quiet (i : InstrId) (x : PortState) (a : Awaited) (user : PortUser) (kind : Byte) (body : List Byte) :
    Quiet s (sendAwaiting i x a user kind body s) :=
  .after (.portFields _ i _ rfl rfl) (transmit_quiet ..)

theorem sendConfig_quiet (i : InstrId) (user : PortUser) (f : ConfigFields) : Quiet s (sendConfig i user f s) :=
  .after (.portFields _ i _ rfl rfl) (sendAwaiting_quiet ..)

theorem sendOutput_quiet (i : InstrId) (user : PortUser) (on : Bool) : Quiet s (sendOutput i user on s) :=
  sendAwaiting_quiet ..

theorem sendHello_quiet (i : InstrId) : Quiet s (sendHello i s) := sendAwaiting_quiet ..

theorem sendRead_quiet (i : InstrId) : Quiet s (sendRead i s) :=
  .after (.portFields _ i _ rfl rfl) (transmit_quiet ..)

theorem sendCancel_quiet (i : InstrId) (ending : CancelEnd) : Quiet s (sendCancel i ending s) :=
  .after (.portFields _ i _ rfl rfl) (transmit_quiet ..)

theorem setSource_quiet (i : InstrId) (x : SourceState) : Quiet s (setSource i x s) :=
  .setPort s i _ fun h => ⟨fun hc => by simp [hc], h.2⟩

theorem outputFailed_quiet (i : InstrId) (a : Option Awaited) : Quiet s (outputFailed i a s) :=
  .ite (fun _ => setSource_quiet ..) fun _ => .refl s

theorem outputAbandoned_quiet (i : InstrId) (a : Option Awaited) : Quiet s (outputAbandoned i a s) := by
  unfold outputAbandoned
  split
  · exact setSource_quiet ..
  · exact .ite (fun _ => .refl s) fun _ => setSource_quiet ..
  · exact .refl s

theorem answerAccepted_quiet (i : InstrId) : Quiet s (answerAccepted i s) :=
  .setPort s i _ fun h => ⟨h.1, Nat.zero_le 3⟩

theorem abandonPort_quiet (n : SiteId) (i : InstrId) : Quiet s (abandonPort n s i) :=
  .ite (fun _ => .after (sendCancel_quiet ..) (outputAbandoned_quiet ..)) fun _ =>
    .ite (fun _ => .portFields s i _ rfl rfl) fun _ => .refl s

theorem countPort_quiet (i : InstrId) (k : PortCounter) : Quiet s (countPort i k s) := .portFields s i _ rfl rfl

theorem reportQuiet_quiet (i : InstrId) (n : SiteId) (o : QuietOutcome) : Quiet s (reportQuiet i n o s) :=
  .portFields s i _ rfl rfl

theorem askSourceOff_quiet (n : SiteId) (i : InstrId) : Quiet s (askSourceOff n s i) :=
  .ite (fun _ => reportQuiet_quiet ..) fun _ =>
    .ite (fun _ => sendOutput_quiet ..) fun _ => .portFields s i _ rfl rfl

theorem takeSourceOff_quiet (i : InstrId) : Quiet s (takeSourceOff i s) := by
  unfold takeSourceOff
  split
  · exact .after (askSourceOff_quiet ..) (.portFields s i _ rfl rfl)
  · exact .refl s

theorem giveTrigger_quiet (n : SiteId) (i : InstrId) : Quiet s (giveTrigger n i s) := .portFields s i _ rfl rfl

/-! ### Phases and ends of a step -/

theorem waitFor_quiet (n : SiteId) (reason : WaitReason) : Quiet s (waitFor n reason s) :=
  .siteFields s n _ rfl rfl rfl

theorem resumeStep_quiet (n : SiteId) : Quiet s (resumeStep n s) := .siteFields s n _ rfl rfl rfl

theorem pushTodo_quiet (n : SiteId) (t : Todo) : Quiet s (pushTodo n t s) := .setAgenda s _

theorem finishStep_quiet (n : SiteId) (failed : Bool) (bin : Option Bin) : Quiet s (finishStep n failed bin s) := by
  cases ht : (s.site n).taking with
  | none => rw [finishStep_none s n failed bin ht]; exact .refl s
  | some r =>
    by_cases hs : (s.site n).state = .run
    · rw [finishStep_run s n failed bin r ht hs]
      exact .after (pushTodo_quiet ..) (.siteFields s n _ rfl rfl rfl)
    · rw [finishStep_manual s n failed bin r ht hs]
      exact .after (notice_quiet ..) (.siteFields s n _ rfl rfl rfl)

theorem lease_leaveQueues (n : SiteId) (i : InstrId) :
    (leaveQueues n s).lease i = { s.lease i with queue := (s.lease i).queue.filter (· != n) } := by
  simp [leaveQueues, State.lease]

theorem leaveQueues_quiet (n : SiteId) : Quiet s (leaveQueues n s) := by
  refine .leases s _ fun h i hi => ?_
  change ((leaveQueues n s).lease i).holder = none at hi
  show ((leaveQueues n s).lease i).queue = []
  rw [lease_leaveQueues] at hi ⊢
  simp [h i hi]

theorem leaveSpace_quiet (n : SiteId) : Quiet s (leaveSpace n s) := .setQueue s _ le_rfl

theorem abandonPorts_quiet (n : SiteId) : Quiet s (allInsts.foldl (abandonPort n) s) :=
  .foldl _ _ s fun s i _ => abandonPort_quiet s n i

/-- The ports of an abandoned step, its waits ended: the state before the agenda and the site context are cleared. -/
def leftPorts (n : SiteId) (s : State) : State := allInsts.foldl (abandonPort n) (leaveSpace n (leaveQueues n s))

/-- What STOP leaves of a step whose waits and ports are given back: nothing on the agenda, and the site's own fields
emptied. -/
def dropStep (n : SiteId) (s : State) : State :=
  let s := { s with agenda := s.agenda.filter fun e => e.1 != n }
  s.setSite n { (s.site n).clearStep with meas := .empty }

theorem abandonStep_eq (n : SiteId) : abandonStep n s = dropStep n (leftPorts n s) := by
  unfold abandonStep leftPorts dropStep
  rfl

theorem dropStep_quiet (n : SiteId) : Quiet s (dropStep n s) :=
  .after (.siteFields _ n _ rfl rfl rfl) (.setAgenda _ _)

theorem leftPorts_quiet (n : SiteId) : Quiet s (leftPorts n s) :=
  .after (abandonPorts_quiet _ n) (.after (leaveSpace_quiet _ n) (leaveQueues_quiet s n))

theorem abandonStep_quiet (n : SiteId) : Quiet s (abandonStep n s) := by
  rw [abandonStep_eq]
  exact .after (dropStep_quiet _ n) (leftPorts_quiet s n)

theorem handover_quiet (i : InstrId) : Quiet s (handover i s) := by
  unfold handover
  split
  · exact .setLease s i _ fun _ => rfl
  · exact .setLease s i _ fun h => by cases h

end Sys2Proof.Machine
end

section
/-! Posts, completions, the phases of a teardown and the twelve step kinds are quiet. -/

namespace Sys2Proof.Machine

variable (s : State)

/-! ### Posts and completions -/

/-- A record is posted into a slot that no site in a run needs (R150). -/
theorem post_quiet (filed : ResultRecord) (h : s.runCount < s.free) : Quiet s (post filed s) where
  reserve := by
    intro _
    have free : s.free = 1024 - s.queue.posted.length := rfl
    show (s.queue.posted ++ [filed]).length + s.runCount ≤ 1024
    simp only [List.length_append, List.length_singleton]
    omega
  link := id
  stores := id
  claims := id
  ports := id
  queues := id
  runs := id
  room := id

/-- A run ends: its record takes the slot that was reserved for it (R153). -/
theorem runEnds_quiet (n : SiteId) (filed : ResultRecord) (h : (s.site n).inRun = true) :
    Quiet s (endTeardown n (post filed s)) := by
  have hc : Site.inRun { s.site n with
      state := (post filed s).restState n, current := none, teardownPhase := none } = false :=
    Site.inRun_of_rests _ (restState_rests (post filed s) n)
  have count := runCount_setSite (post filed s) n { s.site n with
    state := (post filed s).restState n, current := none, teardownPhase := none }
  rw [hc, show (post filed s).site n = s.site n from rfl, h] at count
  have count' : (endTeardown n (post filed s)).runCount + 1 = s.runCount := count
  refine ⟨⟨fun hr => ?_, id, id, id, id, id, fun hr => ?_⟩, id⟩
  · have := show s.queue.posted.length + s.runCount ≤ 1024 from hr
    show (s.queue.posted ++ [filed]).length + (endTeardown n (post filed s)).runCount ≤ 1024
    simp only [List.length_append, List.length_singleton]
    omega
  · exact RunsNumbered.setSite (s := post filed s) hr n _ fun h' => absurd (hc.symm.trans h') (by decide)

theorem readyIf_quiet (wasEmpty : Bool) (filed : ResultRecord) : Quiet s (readyIf wasEmpty filed s) :=
  .ite (fun _ => notice_quiet ..) fun _ => .refl s

/-- Two contexts of a site agree in what makes it a site in a run. -/
def Site.sameRun (c d : Site) : Prop := c.state = d.state ∧ c.origin = d.origin ∧ c.runNumber = d.runNumber

theorem countBin_sameRun (c : Site) (b : Bin) : (countBin s c b).sameRun c := by
  cases b <;> exact ⟨rfl, rfl, rfl⟩

theorem measuredSite_sameRun (c : Site) (store : Option (Fin 8)) (j : Judged) :
    (measuredSite s c store j).sameRun c := by
  have counted : ∀ d : Site, d.sameRun c → (if d.state = .run then countBin s d j.bin else d).sameRun c := by
    intro d hd
    split
    · obtain ⟨h1, h2, h3⟩ := countBin_sameRun s d j.bin
      exact ⟨h1.trans hd.1, h2.trans hd.2.1, h3.trans hd.2.2⟩
    · exact hd
  unfold measuredSite
  refine counted _ ?_
  cases store with
  | none => exact ⟨rfl, rfl, rfl⟩
  | some v => by_cases h : j.bin = .invalid <;> simp only [h, if_true, if_false] <;> exact ⟨rfl, rfl, rfl⟩

theorem completeMeasure_quiet (n : SiteId) (f : MeasureFields) (j : Judged) : Quiet s (completeMeasure n f j s) := by
  obtain ⟨h1, h2, h3⟩ := measuredSite_sameRun s (s.site n) f.store j
  have hm : Quiet s (s.setSite n (measuredSite s (s.site n) f.store j)) := .siteFields s n _ h1 h2 h3
  simp only [completeMeasure]
  refine .after (finishStep_quiet ..) ?_
  split
  · exact .after (.free _ ..) hm
  · exact hm

theorem writeZero_quiet (e : Option EntryId) (z : Int) : Quiet s (writeZero e z s) := by
  unfold writeZero
  split
  · split
    · exact .putRoute s ..
    · exact .refl s
  · exact .refl s

theorem directError_quiet (n : SiteId) (err : StepError) : Quiet s (directError n err s) := by
  simp only [directError]
  split
  · exact .after (notice_quiet ..) (.siteFields s n _ rfl rfl rfl)
  · exact .refl s

theorem completeZero_quiet (n : SiteId) (j : Judged) : Quiet s (completeZero n j s) := by
  simp only [completeZero]
  split
  · have h : Quiet s (s.setSite n { s.site n with meas := .empty }) := .siteFields s n _ rfl rfl rfl
    split
    · exact .after (pushTodo_quiet ..) (.after (.siteFields _ n _ rfl rfl rfl) h)
    · exact .after (directError_quiet ..) h
  · exact .after (finishStep_quiet ..) (.after (.siteFields _ n _ rfl rfl rfl) (writeZero_quiet ..))

theorem completeMeasurement_quiet (n : SiteId) (j : Judged) : Quiet s (completeMeasurement n j s) := by
  unfold completeMeasurement
  split
  · exact completeMeasure_quiet ..
  · exact completeZero_quiet ..
  · exact .refl s

theorem admitPost_quiet (n : SiteId) (h : s.runCount < s.free) : Quiet s (admitPost n s) := by
  simp only [admitPost]
  split
  · split
    · exact .after (readyIf_quiet ..) (.after (completeMeasurement_quiet ..) (post_quiet s _ h))
    · exact .refl s
  · exact .refl s

theorem examineSpace_quiet : Quiet s (examineSpace s) :=
  examineList_keeps s (Quiet s) _ (fun _ _ h => .after (.setQueue _ _ le_rfl) h)
    (fun n t hroom h => h.trans (admitPost_quiet t n hroom)) (.refl s)

theorem takePost_quiet (n : SiteId) : Quiet s (takePost n s) :=
  .ite (fun h => admitPost_quiet s n h.2) fun _ => .after (waitFor_quiet ..) (.setQueue s _ le_rfl)

/-! ### What an operation leaves of the site contexts -/

theorem foldl_sites {α : Type} (f : State → α → State) (xs : List α) (hone : ∀ s a, (f s a).sites = s.sites) :
    (xs.foldl f s).sites = s.sites :=
  foldl_keeps s (fun t => t.sites = s.sites) f xs (fun t a h => (hone t a).trans h) rfl

theorem site_of_sites {s t : State} (h : t.sites = s.sites) (n : SiteId) : t.site n = s.site n := by
  simp only [State.site, h]

theorem chainKick_sites : (chainKick s).sites = s.sites := by
  rcases chainKick_cases s with h | ⟨-, h⟩ <;> rw [h]
  simp only [beginPass]
  split <;> rfl

theorem breakEntry_sites (e : EntryId) : (breakEntry s e).sites = s.sites := by
  unfold breakEntry
  split
  · split <;> rfl
  · rfl

theorem breakEntries_sites (es : List EntryId) : (breakEntries es s).sites = s.sites := by
  unfold breakEntries
  split
  · rfl
  · rw [chainKick_sites, foldl_sites s breakEntry es breakEntry_sites]

theorem handover_sites (i : InstrId) : (handover i s).sites = s.sites := by
  unfold handover
  split <;> rfl

theorem handoverAll_sites (n : SiteId) : (handoverAll n s).sites = s.sites := by
  refine foldl_sites s _ _ fun t i => ?_
  split
  · exact handover_sites t i
  · rfl

theorem outputAbandoned_sites (i : InstrId) (a : Option Awaited) : (outputAbandoned i a s).sites = s.sites := by
  unfold outputAbandoned
  split
  · rfl
  · split <;> rfl
  · rfl

theorem abandonPort_sites (n : SiteId) (i : InstrId) : (abandonPort n s i).sites = s.sites := by
  simp only [abandonPort]
  split
  · exact outputAbandoned_sites s i _
  · split <;> rfl

theorem leftPorts_sites (n : SiteId) : (leftPorts n s).sites = s.sites :=
  foldl_sites _ (abandonPort n) allInsts fun t i => abandonPort_sites t n i

theorem abandonStep_site (n : SiteId) : (abandonStep n s).site n = { (s.site n).clearStep with meas := .empty } := by
  rw [abandonStep_eq, ← site_of_sites (leftPorts_sites s n) n]
  generalize leftPorts n s = t
  exact State.setSite_site_same ..

/-! ### Teardown -/

theorem setTeardownPhase_quiet (n : SiteId) (p : TeardownPhase) : Quiet s (setTeardownPhase n p s) :=
  .siteFields s n _ rfl rfl rfl

theorem setTeardownPhase_state (n : SiteId) (p : TeardownPhase) :
    ((setTeardownPhase n p s).site n).state = (s.site n).state := by
  simp [setTeardownPhase]

theorem recordPhase_quiet (n : SiteId) (h : (s.site n).state = .teardown) : Quiet s (recordPhase n s) := by
  have hp := setTeardownPhase_quiet s n .record
  have hs := (setTeardownPhase_state s n .record).trans h
  simp only [recordPhase]
  generalize setTeardownPhase n .record s = t at hp hs
  refine hp.trans ?_
  split
  · rename_i ho
    have run := runEnds_quiet t n (.runEnd (runEndRecord t n)) (by simp [Site.inRun, hs, ho])
    exact .after (examineSpace_quiet _) (.after (readyIf_quiet ..) (.after (notice_quiet ..) run))
  · exact .siteRests t n _ (Site.inRun_of_rests _ (restState_rests t n))

theorem handoverAll_quiet (n : SiteId) : Quiet s (handoverAll n s) :=
  .foldl _ _ s fun t i _ => .ite (fun _ => handover_quiet t i) fun _ => .refl t

theorem releasePhase_quiet (n : SiteId) (h : (s.site n).state = .teardown) : Quiet s (releasePhase n s) := by
  refine .after (recordPhase_quiet _ n ?_) (.after (handoverAll_quiet _ n) (setTeardownPhase_quiet s n .release))
  rw [site_of_sites (handoverAll_sites _ n) n, setTeardownPhase_state, h]

theorem breakPhase_quiet (n : SiteId) (h : (s.site n).state = .teardown) : Quiet s (breakPhase n s) := by
  simp only [breakPhase]
  have hb := (setTeardownPhase_quiet s n .breakRoutes).trans
    (breakEntries_quiet _ (((setTeardownPhase n .breakRoutes s).siteEntries n).filter fun e =>
      ((setTeardownPhase n .breakRoutes s).route e).any LiveRoute.live))
  split
  · refine .after (releasePhase_quiet _ n ?_) hb
    rw [site_of_sites (breakEntries_sites ..) n, setTeardownPhase_state, h]
  · exact hb

theorem quietPhase_quiet (n : SiteId) (h : (s.site n).state = .teardown) : Quiet s (quietPhase n s) := by
  simp only [quietPhase]
  have hq : Quiet s (s.setSite n { s.site n with
      teardownPhase := some .quiet, outstanding := instMask (s.quietAsked n) }) := .siteFields s n _ rfl rfl rfl
  split
  · exact .after (breakPhase_quiet _ n (by simpa using h)) hq
  · exact .after (.foldl _ _ _ fun t i _ => askSourceOff_quiet t n i) hq

theorem runTeardown_quiet (n : SiteId) : Quiet s (runTeardown n s) := by
  refine .ite (fun h => ?_) fun _ => .refl s
  refine .after (quietPhase_quiet _ n ?_) (abandonStep_quiet s n)
  rw [abandonStep_site]
  exact h.1

/-- A site context as it enters TEARDOWN (R5, R178). -/
def Site.tornDown (c : Site) (cause : Cause) (err : Option StepError) : Site :=
  { c with
    state := .teardown
    origin := some (if c.state = .run then .run else .manual)
    cause := some cause
    errorCode := err
    teardownStep := c.current
    hot := false
    phase := .noStep
    watchdog := none
    outstanding := 0
    teardownPhase := some .stop }

theorem tornDown_quiet (n : SiteId) (cause : Cause) (err : Option StepError) :
    Quiet s (s.setSite n ((s.site n).tornDown cause err)) := by
  refine .setSite s n _ fun hc => ⟨?_, rfl⟩
  by_cases hr : (s.site n).state = .run
  · simp [Site.inRun, hr]
  · simp [Site.inRun, Site.tornDown, hr] at hc

theorem teardownEntry_quiet (n : SiteId) (cause : Cause) (err : Option StepError) :
    Quiet s (teardownEntry n cause err s) := by
  simp only [teardownEntry]
  refine .ite (fun _ => (tornDown_quiet s n cause err).trans ?_) fun _ => .refl s
  split
  · exact .ite (fun _ => notice_quiet ..) fun _ => .refl _
  · exact .refl _

theorem enterTeardown_quiet (n : SiteId) (cause : Cause) (err : Option StepError) :
    Quiet s (enterTeardown n cause err s) :=
  .ite (fun _ => .after (runTeardown_quiet _ n) (teardownEntry_quiet ..)) fun _ => .refl s

theorem stepError_quiet (n : SiteId) (err : StepError) : Quiet s (stepError n err s) := by
  simp only [stepError]
  refine .ite (fun _ => enterTeardown_quiet ..) fun _ => .ite (fun _ => ?_) fun _ => .refl s
  split
  · have h := abandonStep_quiet s n
    generalize abandonStep n s = t at h
    exact .after (notice_quiet ..) (.after (.siteFields _ n _ rfl rfl rfl) h)
  · exact .refl s

/-! ### The step kinds -/

theorem acquireStep_quiet (n : SiteId) (i : InstrId) : Quiet s (acquireStep n i s) := by
  refine .ite (fun _ => finishStep_quiet ..) fun _ => .ite (fun _ => stepError_quiet ..) fun _ => ?_
  split
  · exact .after (finishStep_quiet ..) (.setLease s i _ fun h => by cases h)
  · rename_i m hm
    refine .after (waitFor_quiet ..) (.setLease s i _ fun h => ?_)
    rw [show (s.lease i).holder = none from h] at hm
    cases hm

theorem releaseStep_quiet (n : SiteId) (i : InstrId) : Quiet s (releaseStep n i s) :=
  .ite (fun _ => finishStep_quiet ..) fun _ => .ite (fun _ => stepError_quiet ..) fun _ =>
    .ite (fun _ => .after (finishStep_quiet ..) (handover_quiet s i)) fun _ =>
      .after (waitFor_quiet ..) (breakEntries_quiet ..)

theorem connectStep_quiet (n : SiteId) (d : Byte) : Quiet s (connectStep n d s) := by
  unfold connectStep
  split
  · exact stepError_quiet ..
  · exact finishStep_quiet ..
  · exact .after (.siteFields _ n _ rfl rfl rfl) (waitFor_quiet ..)
  · exact .after (.siteFields _ n _ rfl rfl rfl) (.after (waitFor_quiet ..) (createRoute_quiet ..))

theorem disconnectStep_quiet (n : SiteId) (d : Byte) : Quiet s (disconnectStep n d s) := by
  unfold disconnectStep
  split
  · exact finishStep_quiet ..
  · exact .ite (fun _ => .after (finishStep_quiet ..) (breakEntries_quiet ..)) fun _ => stepError_quiet ..

theorem disconnectAllStep_quiet (n : SiteId) : Quiet s (disconnectAllStep n s) :=
  .ite (fun _ => .after (finishStep_quiet ..) (breakEntries_quiet ..)) fun _ => stepError_quiet ..

theorem sendCommand_quiet (n : SiteId) (i : InstrId) (c : PortCommand) : Quiet s (sendCommand n i c s) := by
  cases c with
  | configure f => exact sendConfig_quiet ..
  | output on => exact sendOutput_quiet ..
  | sample => exact .after (giveTrigger_quiet ..) (.siteFields s n _ rfl rfl rfl)

theorem portStep_quiet (n : SiteId) (i : InstrId) (c : PortCommand) : Quiet s (portStep n i c s) := by
  refine .ite (fun _ => stepError_quiet ..) fun _ => .ite (fun _ => stepError_quiet ..) fun _ => ?_
  split
  · exact stepError_quiet ..
  · exact finishStep_quiet ..
  · exact .ite (fun _ => waitFor_quiet ..) fun _ => .after (sendCommand_quiet ..) (resumeStep_quiet ..)

theorem samplingStep_quiet (n : SiteId) (r : StepRecord) : Quiet s (samplingStep n r s) := by
  simp only [samplingStep]
  have checking : Quiet s (s.setSite n { s.site n with
      meas := checkedContext r.kind.isZero none none, settleOn := none }) := .siteFields s n _ rfl rfl rfl
  refine checking.trans (.ite (fun _ => stepError_quiet ..) fun _ => ?_)
  split
  · exact stepError_quiet ..
  · exact .after (.siteFields _ n _ rfl rfl rfl) (waitFor_quiet ..)
  · exact .after (portStep_quiet ..) (.siteFields _ n _ rfl rfl rfl)
  · exact portStep_quiet ..
  · exact .refl _

theorem delayStep_quiet (n : SiteId) (d : BitVec 24) : Quiet s (delayStep n d s) :=
  .ite (fun _ => finishStep_quiet ..) fun _ => .after (.siteFields _ n _ rfl rfl rfl) (waitFor_quiet ..)

theorem signalStep_quiet (n : SiteId) (mask : Byte) : Quiet s (signalStep n mask s) :=
  .ite (fun _ => finishStep_quiet ..) fun _ =>
    .after (finishStep_quiet ..) (.after (notice_quiet ..) (.siteFields s n _ rfl rfl rfl))

theorem flagsMatched_quiet (n : SiteId) (mask : Byte) : Quiet s (flagsMatched n mask s) :=
  .after (finishStep_quiet ..) (.siteFields s n _ rfl rfl rfl)

theorem waitFlagStep_quiet (n : SiteId) (mask : Byte) (mode : FlagMode) (t : BitVec 16) :
    Quiet s (waitFlagStep n mask mode t s) :=
  .ite (fun _ => flagsMatched_quiet ..) fun _ => .after (.siteFields _ n _ rfl rfl rfl) (waitFor_quiet ..)

theorem performStep_quiet (n : SiteId) (r : StepRecord) : Quiet s (performStep n r s) := by
  unfold performStep
  split
  · exact acquireStep_quiet ..
  · exact releaseStep_quiet ..
  · exact connectStep_quiet ..
  · exact disconnectStep_quiet ..
  · exact disconnectAllStep_quiet ..
  · exact portStep_quiet ..
  · exact portStep_quiet ..
  · exact samplingStep_quiet ..
  · exact samplingStep_quiet ..
  · exact delayStep_quiet ..
  · exact signalStep_quiet ..
  · exact waitFlagStep_quiet ..
  · exact finishStep_quiet ..

theorem takeStep_quiet (n : SiteId) (k : Nat) : Quiet s (takeStep n k s) := by
  unfold takeStep
  split
  · exact .after (stepError_quiet ..) (.siteFields s n _ rfl rfl rfl)
  · exact .after (performStep_quiet ..) (.siteFields s n _ rfl rfl rfl)

/-- The run number that follows is not 0 (R33). -/
theorem nextRunNumber_ne_zero (x : BitVec 16) : (if x = 65535 then 1 else x + 1) ≠ 0 := by
  split
  · decide
  · rename_i h
    intro h0
    exact h (by bv_omega)

/-- A run begins where the queue has a slot for its record (R27, R33, R150). -/
theorem beginRun_quiet (n : SiteId) (slot : Nat) (clear : Bool) (h : s.runCount < s.free) :
    Quiet s (beginRun n slot clear s) where
  reserve := by
    intro _
    have free : s.free = 1024 - s.queue.posted.length := rfl
    have count := runCount_setSite s n ((s.site n).beginRun s.time clear)
    have le := Bool.toNat_le ((s.site n).beginRun s.time clear).inRun
    show s.queue.posted.length + (s.setSite n ((s.site n).beginRun s.time clear)).runCount ≤ 1024
    omega
  link := id
  stores := id
  claims := id
  ports := id
  queues := id
  runs := fun hr => RunsNumbered.setSite hr n _ fun _ => nextRunNumber_ne_zero _
  room := id

/-! ### The agenda -/

theorem runTodo_quiet (n : SiteId) (t : Todo) : Quiet s (runTodo n t s) := by
  refine .ite (fun _ => ?_) fun _ => .refl s
  cases t with
  | take k => exact takeStep_quiet ..
  | enter cause err => exact enterTeardown_quiet ..

theorem settle_quiet : Quiet s (settle s) :=
  settle_keeps s (Quiet s) (fun t a h => h.trans (.setAgenda t a)) (fun n todo t h => h.trans (runTodo_quiet t n todo))
    (.refl s)

end Sys2Proof.Machine
end

section
/-! The events that one block hands to another, the receiver of the host link and the messages of the ports are quiet. -/

namespace Sys2Proof.Machine

variable (s : State)

/-! ### Loads, routes and their sites -/

theorem beginHeader_quiet : Quiet s (beginHeader s) := .setFixture s _

theorem beginLoad_quiet : Quiet s (beginLoad s) := .ite (fun _ => beginHeader_quiet s) fun _ => .setFixture s _

theorem listEmptied_quiet : Quiet s (listEmptied s) := .ite (fun _ => beginHeader_quiet s) fun _ => .refl s

theorem tellMade_quiet (e : EntryId) (n : SiteId) : Quiet s (tellMade e n s) := by
  refine .ite (fun _ => ?_) fun _ => .refl s
  split
  · split
    · exact finishStep_quiet ..
    · exact .after (samplingStep_quiet ..) (resumeStep_quiet ..)
    · exact .after (samplingStep_quiet ..) (resumeStep_quiet ..)
    · exact .refl s
  · exact .refl s

theorem routeMade_quiet (e : EntryId) (r : LiveRoute) : Quiet s (routeMade e r s) :=
  .after (tellMade_quiet ..) (.putRoute s ..)

theorem tellGone_quiet (r : LiveRoute) : Quiet s (tellGone r s) := by
  simp only [tellGone]
  split
  · exact .ite (fun _ => .after (finishStep_quiet ..) (.after (handover_quiet ..) (resumeStep_quiet ..))) fun _ => .refl s
  · exact .ite (fun _ => .after (connectStep_quiet ..) (resumeStep_quiet ..)) fun _ => .refl s
  · exact .ite (fun h => releasePhase_quiet s _ h.1) fun _ => .refl s

theorem routeGone_quiet (e : EntryId) (r : LiveRoute) : Quiet s (routeGone e r s) :=
  .after (listEmptied_quiet _) (.after (tellGone_quiet ..) (freeRoute_quiet ..))

theorem deliverRouteFault_quiet (n : SiteId) : Quiet s (deliverRouteFault s n) :=
  .ite (fun _ => stepError_quiet ..) fun _ => .refl s

/-! ### The relay chain -/

theorem cardFault_quiet (k : CardId) (cause : CardCause) (id returned : Option Byte) (differ : List Nat) (pass : Nat) :
    Quiet s (cardFault k cause id returned differ pass s) :=
  .after (notice_quiet ..) (.after (.foldl _ _ _ fun t n _ => deliverRouteFault_quiet t n)
    (.after (.foldl _ _ _ fun t e _ => faultEntry_quiet t k e) (.setCard s k _)))

theorem judgeCard_quiet (k : CardId) (answer : Option CardAnswer) : Quiet s (judgeCard k answer s) := by
  simp only [judgeCard]
  split
  · exact cardFault_quiet ..
  · refine .ite (fun _ => cardFault_quiet ..) fun _ => .ite (fun _ => .setCard s k _) fun _ => ?_
    exact .after (cardFault_quiet ..) (.setCard s k _)

theorem expireAtOnce_quiet (e : EntryId) : Quiet s (expireAtOnce s e) := by
  unfold expireAtOnce
  split
  · refine .ite (fun _ => ?_) fun _ => .refl s
    split
    · exact routeMade_quiet ..
    · exact routeGone_quiet ..
    · exact .refl s
    · exact .refl s
  · exact .refl s

theorem completePass_quiet : Quiet s (completePass s) :=
  .after (chainKick_quiet _) (.after (.setChain _ _) (.after (.foldl _ _ _ fun t e _ => expireAtOnce_quiet t e)
    (.after (routesPassCompletion_quiet _) (countNoted_quiet s))))

/-! ### Ports and sites -/

theorem recheckPort_quiet (i : InstrId) (n : SiteId) : Quiet s (recheckPort i s n) := by
  refine .ite (fun _ => ?_) fun _ => .refl s
  split
  · exact .ite (fun _ => .after (portStep_quiet ..) (resumeStep_quiet ..)) fun _ => .refl s
  · exact .refl s

theorem portFreed_quiet (i : InstrId) : Quiet s (portFreed i s) :=
  .ite (fun _ => .refl s) fun _ =>
    .after (.foldl _ _ _ fun t n _ => recheckPort_quiet t i n) (takeSourceOff_quiet ..)

theorem nextTrigger_quiet (n : SiteId) (i : InstrId) (spacing : BitVec 16) : Quiet s (nextTrigger n i spacing s) :=
  .ite (fun _ => giveTrigger_quiet ..) fun _ => .portFields s i _ rfl rfl

theorem endSampling_quiet (n : SiteId) (r : StepRecord) : Quiet s (endSampling n r s) := by
  have posting : Quiet s (s.setSite n { s.site n with
      meas := { (s.site n).meas with phase := .posting, result := some (formResult s (s.site n) r) } }) :=
    .siteFields s n _ rfl rfl rfl
  exact posting.trans (.ite (fun _ => takePost_quiet ..) fun _ => completeMeasurement_quiet ..)

theorem takeSample_quiet (n : SiteId) (i : InstrId) (code : Int) (flagged sign : Bool) (trigger conversion : Time) :
    Quiet s (takeSample n i code flagged sign trigger conversion s) := by
  simp only [takeSample]
  split
  · split
    · rename_i x _
      refine .ite (fun _ => ?_) fun _ => .refl s
      generalize addSample (s.site n).meas (s.calEntry i x.range) x.requireZero code flagged sign trigger conversion = m
      have counted : Quiet s (s.setSite n { s.site n with meas := m }) := .siteFields s n _ rfl rfl rfl
      exact counted.trans (.ite (fun _ => nextTrigger_quiet ..) fun _ => endSampling_quiet ..)
    · exact .refl s
  · exact .refl s

/-! ### The lines of the fixture -/

theorem inputNotice_quiet (l : LineId) (active : Bool) (press : Press) : Quiet s (inputNotice l active press s) :=
  notice_quiet ..

theorem seatEffect_quiet (n : SiteId) (active : Bool) : Quiet s (seatEffect n active s) := by
  have judged := (inputNotice_quiet s (seatLine n) active .notStart).trans (judgeSite_quiet _ n)
  exact judged.trans (.ite (fun _ => .refl _) fun _ => enterTeardown_quiet ..)

theorem pressBegins_room (n : SiteId) (h : s.pressBegins n = true) : s.runCount < s.free := by
  simp only [State.pressBegins, Bool.and_eq_true, decide_eq_true_eq] at h
  exact h.2

theorem startEffect_quiet (n : SiteId) (active pressed : Bool) : Quiet s (startEffect n active pressed s) :=
  .ite (fun _ => .ite (fun h => .after (notice_quiet ..) (beginRun_quiet s n _ _ (pressBegins_room s n h)))
    fun _ => notice_quiet ..) fun _ => notice_quiet ..

theorem lidOpened_quiet : Quiet s (lidOpened s) := by
  have opened := (inputNotice_quiet s lidLine false .notStart).trans (safeAdd_quiet _ .lid)
  refine opened.trans (.after (judgeAll_quiet _) (.ite (fun _ => ?_) fun _ => .refl _))
  exact .after (notice_quiet ..) (.setFixture _ _)

theorem lidShut_quiet : Quiet s (lidShut s) := by
  have shut := (inputNotice_quiet s lidLine true .notStart).trans (safeRemove_quiet _ .lid)
  exact (shut.trans (.setFixture _ _)).trans (.after (judgeAll_quiet _) (.ite (fun _ => .refl _) fun _ => beginLoad_quiet _))

theorem acceptChange_quiet (l : LineId) (filtered active mayPress : Bool) :
    Quiet s (acceptChange l filtered active mayPress s) := by
  simp only [acceptChange]
  refine (Quiet.setLine s l ((s.line l).accepted filtered active)).trans ?_
  split
  · exact seatEffect_quiet ..
  · exact startEffect_quiet ..
  · exact .ite (fun _ => lidShut_quiet _) fun _ => lidOpened_quiet _

theorem judgeLine_quiet (l : LineId) (mayPress : Bool) : Quiet s (judgeLine l mayPress s) :=
  .ite (fun _ => .refl s) fun _ => .ite (fun _ => .setLine s l _) fun _ => acceptChange_quiet ..

theorem lidTest_quiet : Quiet s (lidTest s) := judgeLine_quiet ..

theorem engineIdle_quiet : Quiet s (engineIdle s) := .after (lidTest_quiet _) (.setFixture s _)

/-! ### The receiver of the host link -/

theorem restartWatchdog_quiet : Quiet s (restartWatchdog s) :=
  .setLink s _ (.inl le_rfl) (.inl le_rfl) fun _ _ => id

theorem frameArrival_quiet (f : Frame) : Quiet s (frameArrival f s) := by
  have cleared := (restartWatchdog_quiet s).trans (safeRemove_quiet _ .link)
  refine cleared.trans (.ite (fun h => ?_) fun _ => countLink_quiet ..)
  refine .setLink _ _ (.inr ?_) (.inl le_rfl) fun _ _ => id
  simp only [List.length_append, List.length_singleton]
  omega

theorem linkEvent_quiet (e : LinkEvent) : Quiet s (linkEvent s e) := by
  cases e with
  | good f => exact frameArrival_quiet ..
  | badLength => exact countLink_quiet ..
  | badCrc => exact countLink_quiet ..

theorem linkEvents_quiet (es : List LinkEvent) : Quiet s (es.foldl linkEvent s) :=
  .foldl _ _ s fun t e _ => linkEvent_quiet t e

theorem receive_quiet (bytes : List Byte) : Quiet s (receive bytes s) :=
  .after (linkEvents_quiet ..) (.setLink s _ (.inl le_rfl) (.inl le_rfl) fun _ _ => id)

theorem deliver_quiet (f : Frame) : Quiet s (deliver f s) :=
  .ite (fun _ => frameArrival_quiet ..) fun _ => receive_quiet ..

theorem popFrame_quiet : Quiet s (popFrame s) :=
  .setLink s _ (.inl (by simp)) (.inl le_rfl) fun _ _ => id

/-! ### Requests (R194) -/

theorem room_of_canTake (h : s.link.canTake = true) : Room s := by
  simp only [Link.canTake, Bool.and_eq_true, Option.isNone_iff_eq_none, decide_eq_true_eq] at h
  exact ⟨h.2, fun _ _ hp => by rw [h.1] at hp; cases hp⟩

/-- A request keeps what its handler keeps where the link has a place for the reply. -/
theorem takeRequest_keeps (kind tag : Byte) (body : List Byte) (handler : State → State)
    (h : ∀ u, Room u → Keeps u (handler u)) : Keeps s (takeRequest kind tag body handler s) := by
  have arrived : Quiet s (if s.link.rx.head? = some ⟨kind, tag, body⟩ then s else deliver ⟨kind, tag, body⟩ s) :=
    .ite (fun _ => .refl s) fun _ => deliver_quiet ..
  simp only [takeRequest]
  generalize (if s.link.rx.head? = some ⟨kind, tag, body⟩ then s else deliver ⟨kind, tag, body⟩ s) = t at arrived
  refine arrived.toKeeps.trans (.ite (fun hc => ?_) fun _ => .refl t)
  exact (popFrame_quiet t).toKeeps.trans (h _ ((popFrame_quiet t).room (room_of_canTake t hc.2)))

/-- What a request did before its reply is quiet, and the reply takes the place kept for it. -/
theorem Keeps.replied {s t : State} {kind tag : Byte} {status : Status} {fields : List Byte} (hr : Room s)
    (h : Quiet s t) : Keeps s (reply kind tag status fields t) :=
  h.toKeeps.trans (.send _ (h.room hr))

theorem reply_keeps {s : State} {kind tag : Byte} {status : Status} {fields : List Byte} (hr : Room s) :
    Keeps s (reply kind tag status fields s) := .replied hr (.refl s)

theorem withLength_keeps (kind tag : Byte) (allowed : Bool) (handler : State → State) (hr : Room s)
    (h : Keeps s (handler s)) : Keeps s (withLength kind tag allowed handler s) :=
  .ite (fun _ => h) fun _ => reply_keeps hr

theorem plainRequest_keeps (kind tag : Byte) (body : List Byte) (handler : State → State)
    (h : ∀ u, Room u → Keeps u (handler u)) : Keeps s (plainRequest kind tag body handler s) :=
  takeRequest_keeps s kind tag body _ fun u hu => withLength_keeps u kind tag _ _ hu (h u hu)

/-- A request whose body has fields: `allowed` are the lengths of its body. -/
theorem request_keeps (kind tag : Byte) (body : List Byte) (allowed : Bool) (handler : State → State)
    (h : ∀ u, Room u → Keeps u (handler u)) :
    Keeps s (takeRequest kind tag body (withLength kind tag allowed handler) s) :=
  takeRequest_keeps s kind tag body _ fun u hu => withLength_keeps u kind tag _ _ hu (h u hu)

variable {s} in
theorem Keeps.settled {t : State} (h : Keeps s t) : Keeps s (settle t) := h.trans (settle_quiet t).toKeeps

/-! ### Messages of the ports -/

theorem ackEffect_quiet (i : InstrId) (p : Port) : Quiet s (ackEffect i p s) := by
  unfold ackEffect
  split
  · exact .portFields s i _ rfl rfl
  · exact setSource_quiet ..
  · exact setSource_quiet ..
  · exact .refl s

theorem userDone_quiet (i : InstrId) (user : Option PortUser) : Quiet s (userDone i user s) := by
  unfold userDone
  split
  · exact finishStep_quiet ..
  · exact reportQuiet_quiet ..
  all_goals exact .refl s

theorem userFails_quiet (i : InstrId) (user : Option PortUser) (err : StepError) (o : QuietOutcome) :
    Quiet s (userFails i user err o s) := by
  unfold userFails
  split
  · exact stepError_quiet ..
  · exact reportQuiet_quiet ..
  all_goals exact .refl s

theorem ackAccepted_quiet (i : InstrId) : Quiet s (ackAccepted i s) :=
  .after (portFreed_quiet ..) (.after (userDone_quiet ..) (.after (ackEffect_quiet ..) (answerAccepted_quiet ..)))

theorem nakAccepted_quiet (i : InstrId) (reason : Byte) : Quiet s (nakAccepted i reason s) := by
  have answered := (answerAccepted_quiet s i).trans (countPort_quiet _ i .nak)
  refine answered.trans (.after (portFreed_quiet ..) (.after (userFails_quiet ..) (.after (outputFailed_quiet ..) ?_)))
  exact .portFields _ i _ rfl rfl

theorem valueAccepted_quiet (i : InstrId) (code : Int) (status : Byte) : Quiet s (valueAccepted i code status s) := by
  simp only [valueAccepted]
  refine (answerAccepted_quiet s i).trans ?_
  split
  · exact takeSample_quiet ..
  · exact .refl _

theorem identAccepted_quiet (i : InstrId) (x : IdentFields) : Quiet s (identAccepted i x s) := by
  have noted : Quiet s (portNotice i (if (s.port i).state = .offline then .found else .enabled)
      ((answerAccepted i s).setPort i { (answerAccepted i s).port i with lastIdent := some x, probeTimer := none })) :=
    .after (notice_quiet ..) (.after (.portFields _ i _ rfl rfl) (answerAccepted_quiet ..))
  exact noted.trans (.ite (fun _ => portFreed_quiet ..) fun _ => .refl _)

theorem soundMessage_quiet (i : InstrId) (m : PortMessage) : Quiet s (soundMessage i m s) := by
  refine .ite (fun _ => ?_) fun _ => countPort_quiet ..
  split
  · exact ackAccepted_quiet ..
  · exact nakAccepted_quiet ..
  · exact valueAccepted_quiet ..
  · exact identAccepted_quiet ..
  · exact .refl s

theorem countFailure_quiet (i : InstrId) (p : Port) (hs : p.source = (s.port i).source) (k : Nat) :
    Quiet s (s.setPort i { p with failures := moreFailures k }) :=
  .setPort s i _ fun h => ⟨fun hc => hs.trans (h.1 hc), Nat.min_le_right ..⟩

theorem exchangeTimedOut_quiet (i : InstrId) : Quiet s (exchangeTimedOut i s) :=
  .after (userFails_quiet ..) (.after (sendCancel_quiet ..) (.after (outputFailed_quiet ..)
    (.after (countFailure_quiet _ i _ rfl _) (countPort_quiet s i .timeout))))

theorem badChecksum_quiet (i : InstrId) : Quiet s (badChecksum i s) := by
  refine (countPort_quiet s i .checksum).trans (.ite (fun _ => ?_) fun _ => .refl _)
  refine (countFailure_quiet _ i _ rfl _).trans (.ite (fun _ => ?_) fun _ => .refl _)
  exact .after (userFails_quiet ..) (.after (sendCancel_quiet ..) (outputFailed_quiet ..))

theorem portEvent_quiet (i : InstrId) (e : PortEvent) : Quiet s (portEvent i s e) := by
  cases e with
  | sound m => exact soundMessage_quiet ..
  | badChecksum => exact badChecksum_quiet ..

theorem portByte_quiet (i : InstrId) (b : Byte) : Quiet s (portByte i s b) := by
  refine .ite (fun _ => .refl s) fun _ => .after (settle_quiet _) ?_
  exact portEvents_keeps _ (Quiet s) i _ (fun t e h => h.trans (portEvent_quiet t i e)) (.portFields s i _ rfl rfl)

theorem portReceive_quiet (i : InstrId) (bytes : List Byte) : Quiet s (portReceive i bytes s) :=
  .foldl _ _ s fun t b _ => portByte_quiet t i b

theorem goOffline_quiet (i : InstrId) (cause : PortCause) : Quiet s (goOffline i cause s) :=
  .after (notice_quiet ..) (.portFields s i _ rfl rfl)

theorem cancelEnded_quiet (i : InstrId) : Quiet s (cancelEnded i s) := by
  refine .after (portFreed_quiet ..) ?_
  split
  · exact .portFields s i _ rfl rfl
  · exact .after (goOffline_quiet ..) (countPort_quiet ..)
  · exact goOffline_quiet ..

theorem sendProbe_quiet (i : InstrId) : Quiet s (sendProbe i s) :=
  .after (.portFields _ i _ rfl rfl) (transmit_quiet ..)

theorem rdyChanged_quiet (i : InstrId) (level : Bool) : Quiet s (rdyChanged i level s) := by
  have filtered : Quiet s (s.setPort i { s.port i with filteredRdy := level }) := .portFields s i _ rfl rfl
  refine filtered.trans (.ite (fun _ => .ite (fun _ => .portFields _ i _ rfl rfl) fun _ => ?_) fun _ => .refl _)
  exact .ite (fun _ => .after (sendRead_quiet ..) (.portFields _ i _ rfl rfl)) fun _ => .refl _

/-- An expiry whose effect is quiet is quiet. -/
theorem whenRun_quiet (t : Timer) (effect : State → State) (h : ∀ u, Quiet u (effect u)) :
    Quiet s (whenRun t effect s) :=
  whenRun_keeps s (Quiet s) t effect (fun now => .setTime s now) (fun u hu => hu.trans (h u)) (.refl s)

/-! ### The fixture -/

theorem endLoad_quiet (held : Option Identity) (cause : Option LoadCause) : Quiet s (endLoad held cause s) :=
  .after (lidTest_quiet _) (.after (judgeAll_quiet _) (.after (notice_quiet ..) (.setFixture s _)))

theorem headerRead_quiet (bytes : List Byte) (h : IdentityHeader) : Quiet s (headerRead bytes h s) := by
  unfold headerRead
  split
  · exact endLoad_quiet ..
  · exact .setFixture s _

theorem endTransfer_quiet (error : Option EngineError) (status : Status) (fields : List Byte) :
    Quiet s (endTransfer error status fields s) := by
  unfold endTransfer
  split
  · rename_i kind tag h
    refine .after (engineIdle_quiet _) (.after (.fixmemReply _ kind tag ?_) (.setFixture s _))
    exact h
  · exact .refl s

theorem pollAnswered_quiet (ack : Bool) (length polls : Nat) (t : Timer) : Quiet s (pollAnswered ack length polls t s) :=
  .trans (.setFixture s _) (.ite (fun _ => .after (settle_quiet _) (endTransfer_quiet ..)) fun _ =>
    .ite (fun _ => .after (settle_quiet _) (endTransfer_quiet ..)) fun _ => .setFixture _ _)

end Sys2Proof.Machine
end

section
/-! Every command keeps the invariants: the requests answered by the link and the tables, the commands of the sites, of the
chain, of the ports, of the fixture, and the two resets. -/

namespace Sys2Proof.Machine

variable (s : State)

/-- An answer that, as the next state, keeps every invariant. -/
structure AnswerKeeps (s : State) (a : Answer) : Prop where
  keeps : ∀ t, a = .next t → Keeps s t

variable {s} in
theorem Keeps.answer {t : State} (h : Keeps s t) : AnswerKeeps s (.next t) := by
  constructor
  rintro _ ⟨⟩
  exact h

variable {s} in
theorem AnswerKeeps.quiet {t : State} (h : Quiet s t) : AnswerKeeps s (.next t) := h.toKeeps.answer

theorem AnswerKeeps.same : AnswerKeeps s (.next s) := (Keeps.refl s).answer

/-! ### The host link -/

theorem execFragmentGapExpiry_keeps : AnswerKeeps s (execFragmentGapExpiry s) := by
  unfold execFragmentGapExpiry
  split
  · exact .same s
  · refine (whenRun_quiet s _ _ fun u => ?_).answer
    refine .after (linkEvents_quiet ..) (.after ?_ (countLink_quiet u .fragment))
    exact .setLink _ _ (.inl le_rfl) (.inl le_rfl) fun _ _ => id

theorem execFrameSent_keeps : AnswerKeeps s (execFrameSent s) := by
  unfold execFrameSent
  split
  · exact .same s
  · rename_i f rest htx
    refine .quiet (.setLink s _ (.inl le_rfl) (.inl ?_) fun kind tag h => ?_)
    · simp [htx]
    · dsimp only at h
      split at h
      · cases h
      · exact h

theorem execLinkWatchdogExpiry_keeps : AnswerKeeps s (execLinkWatchdogExpiry s) := by
  unfold execLinkWatchdogExpiry
  split
  · exact .same s
  · refine (whenRun_quiet s _ _ fun u => ?_).answer
    refine .after (safeAdd_quiet ..) (.after (notice_quiet ..) (.after (countWatchdog_quiet ..) ?_))
    exact .setLink u _ (.inl le_rfl) (.inl le_rfl) fun _ _ => id

theorem execUnknownKindFrame_keeps (kind tag : Byte) (body : List Byte) :
    AnswerKeeps s (execUnknownKindFrame kind tag body s) := by
  unfold execUnknownKindFrame
  split
  · exact .same s
  · exact (takeRequest_keeps s kind tag body _ fun u hu => .send _ hu).answer

theorem execIdent_keeps (tag : Byte) (body : List Byte) : AnswerKeeps s (execIdent tag body s) :=
  (plainRequest_keeps s _ tag body _ fun _ hu => reply_keeps hu).answer

theorem statusRequest_keeps (tag : Byte) (body : List Byte) : Keeps s (statusRequest tag body s) := by
  refine request_keeps s _ tag body _ _ fun u hu => ?_
  split
  · exact reply_keeps hu
  · exact .replied hu (.ite (fun _ => .free u ..) fun _ => .refl u)

theorem execCountersRead_keeps (tag : Byte) (body : List Byte) : AnswerKeeps s (execCountersRead tag body s) :=
  (plainRequest_keeps s _ tag body _ fun _ hu => reply_keeps hu).answer

theorem clearGroup_quiet (g : CounterGroup) : Quiet s (clearGroup g s) := by
  cases g with
  | link => exact .setLink s _ (.inl le_rfl) (.inl le_rfl) fun _ _ => id
  | watchdog => exact .setLink s _ (.inl le_rfl) (.inl le_rfl) fun _ _ => id
  | port i => exact .portFields s i _ rfl rfl
  | card => exact .setChain s _

theorem countersClearRequest_keeps (tag : Byte) (body : List Byte) : Keeps s (countersClearRequest tag body s) := by
  refine request_keeps s _ tag body _ _ fun u hu => ?_
  split
  · exact reply_keeps hu
  · exact .replied hu (clearGroup_quiet u _)

theorem execSoftReset_keeps (tag : Byte) (body : List Byte) : AnswerKeeps s (execSoftReset tag body s) := by
  refine (plainRequest_keeps s _ tag body _ fun u hu => ?_).answer
  have replied : Keeps u (reply 0x05 tag .ok [] u) := reply_keeps hu
  exact replied.trans (Quiet.toKeeps (.setLink _ _ (.inl le_rfl) (.inl le_rfl) fun _ _ h => by cases h))

theorem execWatchdogSet_keeps (tag : Byte) (body : List Byte) : AnswerKeeps s (execWatchdogSet tag body s) := by
  refine (request_keeps s _ tag body _ _ fun u hu => ?_).answer
  split
  · refine .replied hu (.after (restartWatchdog_quiet _) ?_)
    exact .setLink u _ (.inl le_rfl) (.inl le_rfl) fun _ _ => id
  · exact .refl u

theorem execSafeEnter_keeps (tag : Byte) (body : List Byte) : AnswerKeeps s (execSafeEnter tag body s) :=
  (plainRequest_keeps s _ tag body _ fun u hu => .replied hu (safeAdd_quiet u .request)).answer

theorem execSafeLeave_keeps (tag : Byte) (body : List Byte) : AnswerKeeps s (execSafeLeave tag body s) :=
  (plainRequest_keeps s _ tag body _ fun u hu => .replied hu (safeRemove_quiet u .request)).answer

/-! ### Tables -/

theorem chunks_length (size count : Nat) (bs : List Byte) : (chunks size count bs).length = count := by
  induction count generalizing bs with
  | zero => rfl
  | succ k ih => simp [chunks, ih]

theorem mapM_length {α β : Type} (f : α → Option β) (xs : List α) (ys : List β) (h : xs.mapM f = some ys) :
    ys.length = xs.length := by
  induction xs generalizing ys with
  | nil => cases h; rfl
  | cons x rest ih =>
    rw [List.mapM_cons] at h
    cases hx : f x with
    | none => simp [hx] at h
    | some y =>
      cases hr : rest.mapM f with
      | none => simp [hx, hr] at h
      | some zs =>
        simp only [hx, hr, Option.bind_eq_bind, Option.bind_some, Option.pure_def, Option.some.injEq] at h
        rw [← h, List.length_cons, List.length_cons, ih zs hr]

theorem readRecords_length {α : Type} (read : List Byte → Option α) (size : Nat) (bs : List Byte) (rs : List α)
    (h : readRecords read size bs = some rs) : rs.length = bs.length / size := by
  rw [mapM_length _ _ rs h, chunks_length]

/-- A load keeps the store inside its places. -/
theorem loadTable_keeps {α : Type} (kind tag : Byte) (places size : Nat) (read : List Byte → Option (Option α))
    (table : State → Table α) (write : State → Table α → State) (first : Nat) (clear : Byte) (records : List Byte)
    (hr : Room s) (hw : ∀ t, ((table s).within places → t.within places) → Quiet s (write s t)) :
    Keeps s (loadTable kind tag places size read table write first clear records s) := by
  refine .ite (fun _ => reply_keeps hr) fun _ => .ite (fun _ => reply_keeps hr) fun hfit => ?_
  split
  · rename_i rs c hrs _
    refine .replied hr (hw _ fun ht => Table.within_assignFrom _ _ _ _ ?_ ?_)
    · split
      · exact Table.within_empty _
      · exact ht
    · rw [readRecords_length _ _ _ _ hrs]
      omega
  · exact reply_keeps hr

theorem execStepsLoad_keeps (tag : Byte) (body : List Byte) : AnswerKeeps s (execStepsLoad tag body s) := by
  refine (request_keeps s _ tag body _ _ fun u hu => ?_).answer
  split
  · exact loadTable_keeps u _ _ _ _ _ _ _ _ _ _ hu fun t ht => .setTables u t _ _ ht id id
  · exact .refl u

theorem execRoutedefLoad_keeps (tag : Byte) (body : List Byte) : AnswerKeeps s (execRoutedefLoad tag body s) := by
  refine (request_keeps s _ tag body _ _ fun u hu => ?_).answer
  split
  · exact loadTable_keeps u _ _ _ _ _ _ _ _ _ _ hu fun t ht => .setTables u _ t _ id ht id
  · exact .refl u

theorem execLimitsLoad_keeps (tag : Byte) (body : List Byte) : AnswerKeeps s (execLimitsLoad tag body s) := by
  refine (request_keeps s _ tag body _ _ fun u hu => ?_).answer
  split
  · exact loadTable_keeps u _ _ _ _ _ _ _ _ _ _ hu fun t ht => .setTables u _ _ t id id ht
  · exact .refl u

theorem execStepsRead_keeps (tag : Byte) (body : List Byte) : AnswerKeeps s (execStepsRead tag body s) := by
  refine (request_keeps s _ tag body _ _ fun u hu => ?_).answer
  split
  · exact .ite (fun _ => reply_keeps hu) fun _ => reply_keeps hu
  · exact .refl u

theorem execCalSet_keeps (tag : Byte) (body : List Byte) : AnswerKeeps s (execCalSet tag body s) := by
  refine (request_keeps s _ tag body _ _ fun u hu => ?_).answer
  split
  · split
    · exact .replied hu (.free u ..)
    · exact reply_keeps hu
  · exact .refl u

theorem execCalRead_keeps (tag : Byte) (body : List Byte) : AnswerKeeps s (execCalRead tag body s) := by
  refine (request_keeps s _ tag body _ _ fun u hu => ?_).answer
  split
  · split <;> exact reply_keeps hu
  · exact .refl u

theorem cardSetRequest_keeps (tag : Byte) (body : List Byte) : Keeps s (cardSetRequest tag body s) := by
  refine request_keeps s _ tag body _ _ fun u hu => ?_
  split
  · split
    · exact .replied hu (Quiet.setCard u _ _)
    · exact reply_keeps hu
  · exact .ite (fun _ => .replied hu (Quiet.setChain u _)) fun _ => reply_keeps hu
  · exact .refl u

theorem resetCard_quiet (k : CardId) : Quiet s (resetCard k s) :=
  .after (chainKick_quiet _) (.after (.setChain _ _) (.setCard s k _))

theorem execCardReset_keeps (tag : Byte) (body : List Byte) : AnswerKeeps s (execCardReset tag body s) := by
  refine (request_keeps s _ tag body _ _ fun u hu => ?_).answer
  split
  · split
    · exact reply_keeps hu
    · exact .ite (fun _ => reply_keeps hu) fun _ => .ite (fun _ => reply_keeps hu) fun _ =>
        .replied hu (resetCard_quiet u _)
  · exact .refl u

theorem execWearRead_keeps (tag : Byte) (body : List Byte) : AnswerKeeps s (execWearRead tag body s) := by
  refine (request_keeps s _ tag body _ _ fun u hu => ?_).answer
  split
  · split <;> exact reply_keeps hu
  · exact .refl u

theorem read24_le (a b c : Byte) : read24 a b c ≤ 16777215 := by
  have ha := a.isLt
  have hb := b.isLt
  have hc := c.isLt
  simp only [read24]
  omega

theorem loadWear_quiet (k : CardId) (x : Nat × List Byte) (h : x.1 < 512) : Quiet s (loadWear k s x) := by
  unfold loadWear
  split
  · exact setWear_quiet s k x.1 _ h (read24_le ..)
  · exact .refl s

/-- The places of the buses that WEAR_LOAD names lie in the card's word (R95, R96). -/
theorem lt_of_mem_wearPlaces {position first count : Byte} {k : CardId} (h : wearRange position first count = some k)
    {place : Nat} (hp : place ∈ wearPlaces first count) : place < 512 := by
  simp only [wearRange] at h
  split at h
  · cases h
  · simp only [wearPlaces, List.mem_range'_1] at hp
    omega

theorem execWearLoad_keeps (tag : Byte) (body : List Byte) : AnswerKeeps s (execWearLoad tag body s) := by
  refine (request_keeps s _ tag body _ _ fun u hu => ?_).answer
  split
  · split
    · rename_i k hk
      refine .ite (fun _ => reply_keeps hu) fun _ => .replied hu (.foldl _ _ u fun v x hx => ?_)
      exact loadWear_quiet v k x (lt_of_mem_wearPlaces hk (List.of_mem_zip hx).1)
    · exact reply_keeps hu
  · exact .refl u

theorem takeRecords_quiet (k : Nat) : Quiet s (takeRecords k s) := .setQueue s _ (by simp)

theorem fetchRecords_keeps (tag : Byte) (n : Nat) (hr : Room s) : Keeps s (fetchRecords tag n s) := by
  have fetched : Keeps s (reply 0x24 tag .ok (u8 (s.queue.posted.take n).length ++
      (s.queue.posted.take n).flatMap recordBytes) (takeRecords n s)) := .replied hr (takeRecords_quiet s n)
  exact fetched.trans (.ite (fun _ => .refl _) fun _ => (examineSpace_quiet _).toKeeps)

theorem execFetch_keeps (tag : Byte) (body : List Byte) : AnswerKeeps s (execFetch tag body s) := by
  refine (Keeps.settled (request_keeps s _ tag body _ _ fun u hu => ?_)).answer
  split
  · exact .ite (fun _ => reply_keeps hu) fun _ => fetchRecords_keeps u tag _ hu
  · exact .refl u

/-! ### Sites -/

theorem execSiteSet_keeps (tag : Byte) (body : List Byte) : AnswerKeeps s (execSiteSet tag body s) := by
  refine (request_keeps s _ tag body _ _ fun u hu => ?_).answer
  split
  · split
    · exact .ite (fun _ => reply_keeps hu) fun _ => .replied hu (.siteFields u _ _ rfl rfl rfl)
    · exact reply_keeps hu
  · exact .refl u

theorem startSite_keeps (tag : Byte) (n : SiteId) (slot : Nat) (clear : Bool) (hr : Room s) :
    Keeps s (startSite tag n slot clear s) := by
  refine .ite (fun _ => reply_keeps hr) fun _ => .ite (fun _ => reply_keeps hr) fun _ =>
    .ite (fun _ => reply_keeps hr) fun h => ?_
  exact .replied hr (beginRun_quiet s n slot clear (by omega))

theorem execStart_keeps (tag : Byte) (body : List Byte) : AnswerKeeps s (execStart tag body s) := by
  refine (Keeps.settled (request_keeps s _ tag body _ _ fun u hu => ?_)).answer
  split
  · split
    · split
      · exact startSite_keeps u tag _ _ _ hu
      · exact reply_keeps hu
    · exact reply_keeps hu
  · exact .refl u

theorem siteRequest_keeps (kind tag : Byte) (body : List Byte) (act : SiteId → State → State)
    (h : ∀ n u, Room u → Keeps u (act n u)) : Keeps s (siteRequest kind tag body act s) := by
  refine request_keeps s _ tag body _ _ fun u hu => ?_
  split
  · split
    · exact h _ u hu
    · exact reply_keeps hu
  · exact .refl u

theorem execAbort_keeps (tag : Byte) (body : List Byte) : AnswerKeeps s (execAbort tag body s) := by
  refine (Keeps.settled (siteRequest_keeps s _ tag body _ fun n u hu => ?_)).answer
  refine .ite (fun _ => ?_) fun _ => reply_keeps hu
  exact .after (runTeardown_quiet ..).toKeeps (.replied hu (teardownEntry_quiet u n .hostAbort none))

theorem execManual_keeps (tag : Byte) (body : List Byte) : AnswerKeeps s (execManual tag body s) := by
  refine (siteRequest_keeps s _ tag body _ fun n u hu => ?_).answer
  refine .ite (fun _ => reply_keeps hu) fun _ => .ite (fun _ => reply_keeps hu) fun _ => ?_
  exact .replied hu (.siteRests u n _ rfl)

theorem directStep_keeps (tag : Byte) (n : SiteId) (r : StepRecord) (hr : Room s) :
    Keeps s (directStep tag n r s) := by
  refine .ite (fun _ => reply_keeps hr) fun _ => .ite (fun _ => reply_keeps hr) fun _ =>
    .ite (fun _ => reply_keeps hr) fun _ => ?_
  exact .after (performStep_quiet ..).toKeeps (.replied hr (.siteFields s n _ rfl rfl rfl))

theorem execDirect_keeps (tag : Byte) (body : List Byte) : AnswerKeeps s (execDirect tag body s) := by
  refine (Keeps.settled (request_keeps s _ tag body _ _ fun u hu => ?_)).answer
  split
  · split
    · exact directStep_keeps u tag _ _ hu
    · exact reply_keeps hu
  · exact .refl u

theorem execSiteClear_keeps (tag : Byte) (body : List Byte) : AnswerKeeps s (execSiteClear tag body s) := by
  refine (Keeps.settled (siteRequest_keeps s _ tag body _ fun n u hu => ?_)).answer
  refine .ite (fun _ => ?_) fun _ => reply_keeps hu
  exact .after (runTeardown_quiet ..).toKeeps (.replied hu (teardownEntry_quiet u n .cleared none))

theorem execVarSet_keeps (tag : Byte) (body : List Byte) : AnswerKeeps s (execVarSet tag body s) := by
  refine (request_keeps s _ tag body _ _ fun u hu => ?_).answer
  split
  · split
    · exact .ite (fun _ => reply_keeps hu) fun _ => .ite (fun _ => reply_keeps hu) fun _ =>
        .replied hu (.siteFields u _ _ rfl rfl rfl)
    · exact reply_keeps hu
  · exact .refl u

theorem execVarRead_keeps (tag : Byte) (body : List Byte) : AnswerKeeps s (execVarRead tag body s) :=
  (siteRequest_keeps s _ tag body _ fun _ _ hu => reply_keeps hu).answer

theorem retestFlags_quiet (n : SiteId) : Quiet s (retestFlags n s) := by
  simp only [retestFlags]
  split
  · exact .ite (fun _ => .after (flagsMatched_quiet ..) (resumeStep_quiet ..)) fun _ => .refl s
  · exact .refl s

theorem execFlagRaise_keeps (tag : Byte) (body : List Byte) : AnswerKeeps s (execFlagRaise tag body s) := by
  refine (Keeps.settled (request_keeps s _ tag body _ _ fun u hu => ?_)).answer
  split
  · split
    · exact .after (retestFlags_quiet ..).toKeeps (.replied hu (.siteFields u _ _ rfl rfl rfl))
    · exact reply_keeps hu
  · exact .refl u

theorem execFlagClear_keeps (tag : Byte) (body : List Byte) : AnswerKeeps s (execFlagClear tag body s) := by
  refine (request_keeps s _ tag body _ _ fun u hu => ?_).answer
  split
  · split
    · exact .replied hu (.siteFields u _ _ rfl rfl rfl)
    · exact reply_keeps hu
  · exact .refl u

theorem execSafeOrder_keeps (n : SiteId) : AnswerKeeps s (execSafeOrder n s) := by
  unfold execSafeOrder
  split
  · exact .same s
  · exact .quiet (.after (settle_quiet _) (.after (enterTeardown_quiet ..) (.free s ..)))

theorem execDelayExpiry_keeps (n : SiteId) : AnswerKeeps s (execDelayExpiry n s) := by
  unfold execDelayExpiry
  split
  · exact (whenRun_quiet s _ _ fun u => .after (settle_quiet _) (finishStep_quiet u n false none)).answer
  · exact .same s

theorem execWaitFlagTimeout_keeps (n : SiteId) : AnswerKeeps s (execWaitFlagTimeout n s) := by
  unfold execWaitFlagTimeout
  split
  · exact (whenRun_quiet s _ _ fun u => .after (settle_quiet _) (finishStep_quiet u n true none)).answer
  · exact .same s

theorem execStepWatchdogExpiry_keeps (n : SiteId) : AnswerKeeps s (execStepWatchdogExpiry n s) := by
  unfold execStepWatchdogExpiry
  split
  · refine (whenRun_quiet s _ _ fun u => .after (settle_quiet _) ?_).answer
    exact .after (enterTeardown_quiet ..) (countWatchdog_quiet u (.site n))
  · exact .same s

theorem takeOutcome_quiet (n : SiteId) (i : InstrId) (o : QuietOutcome) : Quiet s (takeOutcome n i o s) := by
  refine .ite (fun h => ?_) fun _ => .refl s
  have counted : Quiet s (s.setSite n { s.site n with
      outstanding := (s.site n).outstanding &&& ~~~(instBit i), hot := (s.site n).hot || o != .acked }) :=
    .siteFields s n _ rfl rfl rfl
  exact counted.trans (.ite (fun _ => breakPhase_quiet _ n (by simpa using h.1)) fun _ => .refl _)

theorem execQuietOutcome_keeps (i : InstrId) : AnswerKeeps s (execQuietOutcome i s) := by
  unfold execQuietOutcome
  split
  · exact .same s
  · exact .quiet (.after (settle_quiet _) (.after (takeOutcome_quiet ..) (.portFields s i _ rfl rfl)))

theorem execGrantEvent_keeps (n : SiteId) (i : InstrId) : AnswerKeeps s (execGrantEvent n i s) := by
  unfold execGrantEvent
  split
  · split
    · exact .quiet (.after (settle_quiet _) (.after (finishStep_quiet ..) (resumeStep_quiet s n)))
    · exact .same s
  · exact .same s

/-! ### The relay chain -/

theorem execMakeTimerExpiry_keeps (e : EntryId) : AnswerKeeps s (execMakeTimerExpiry e s) := by
  unfold execMakeTimerExpiry
  split
  · split
    · exact (whenRun_quiet s _ _ fun u => .after (settle_quiet _) (routeMade_quiet u e _)).answer
    · exact .same s
  · exact .same s

theorem execReleaseTimerExpiry_keeps (e : EntryId) : AnswerKeeps s (execReleaseTimerExpiry e s) := by
  unfold execReleaseTimerExpiry
  split
  · split
    · exact (whenRun_quiet s _ _ fun u => .after (settle_quiet _) (routeGone_quiet u e _)).answer
    · exact .same s
  · exact .same s

theorem discoverCard_quiet (k : CardId) (answer : Option CardAnswer) : Quiet s (discoverCard k answer s) := by
  simp only [discoverCard]
  split
  · exact .setCard s k _
  · refine .ite (fun _ => .setCard s k _) fun _ => ?_
    exact .after (.setCard _ k _) (.after (cardFault_quiet ..) (.setCard s k _))

theorem execDiscoveryEnd_keeps (answers : Vector (Option CardAnswer) 16) :
    AnswerKeeps s (execDiscoveryEnd answers s) := by
  unfold execDiscoveryEnd
  split
  · refine .quiet (.after (settle_quiet _) (.after (chainKick_quiet _) (.after (.setChain _ _) ?_)))
    exact .foldl _ _ s fun t k _ => discoverCard_quiet t k _
  · exact .same s

theorem execWriteFrameSent_keeps : AnswerKeeps s (execWriteFrameSent s) := by
  unfold execWriteFrameSent
  split
  · split <;> exact (Quiet.setChain s _).answer
  · exact .same s

theorem execLatch_keeps : AnswerKeeps s (execLatch s) := by
  unfold execLatch
  split
  · dsimp only
    split
    · exact (Quiet.setChain s _).answer
    · exact .quiet (.after (settle_quiet _) (.after (completePass_quiet _) (.setChain s _)))
  · exact .same s

theorem execReadFrameAnswer_keeps (answer : Option CardAnswer) : AnswerKeeps s (execReadFrameAnswer answer s) := by
  unfold execReadFrameAnswer
  split
  · split
    · rename_i k _
      have judged : Quiet s (if s.chain.verifySet.getLsbD k.val then
          judgeCard k answer (s.setChain { s.chain with cursor := k.val + 1 })
          else s.setChain { s.chain with cursor := k.val + 1 }) :=
        .trans (.setChain s _) (.ite (fun _ => judgeCard_quiet ..) fun _ => .refl _)
      dsimp only
      generalize (if s.chain.verifySet.getLsbD k.val then
          judgeCard k answer (s.setChain { s.chain with cursor := k.val + 1 })
          else s.setChain { s.chain with cursor := k.val + 1 }) = t at judged
      split
      · exact .quiet (.after (settle_quiet t) judged)
      · exact .quiet (.after (settle_quiet _) (.after (completePass_quiet t) judged))
    · exact .quiet (.after (settle_quiet _) (completePass_quiet s))
  · exact .same s

theorem execRefreshExpiry_keeps : AnswerKeeps s (execRefreshExpiry s) := by
  unfold execRefreshExpiry
  split
  · split
    · exact .same s
    · exact (whenRun_quiet s _ _ fun u => .after (chainKick_quiet _) (.setChain u _)).answer
  · exact .same s

/-! ### Instrument records and ports -/

theorem State.record_setRecords (i j : InstrId) (r : InstrRecord) :
    State.record { s with records := s.records.set i r } j = if i = j then r else s.record j := by
  by_cases h : i = j
  · subst h
    simp [State.record]
  · have h' : i.val ≠ j.val := fun e => h (Fin.ext e)
    simp [State.record, h, h']

theorem claimsSound_iff : ClaimsSound s ↔
    (∀ i, (s.record i).buses.Nodup) ∧ ∀ i j, i ≠ j → List.Disjoint (s.record i).buses (s.record j).buses := by
  unfold ClaimsSound
  rw [List.nodup_flatMap]
  have sym : Std.Symm (Function.onFun List.Disjoint fun i => (s.record i).buses) := ⟨fun _ _ h => h.symm⟩
  constructor
  · rintro ⟨h1, h2⟩
    refine ⟨fun i => h1 i (mem_allInsts i), fun i j hij => ?_⟩
    exact h2.forall (mem_allInsts i) (mem_allInsts j) hij
  · rintro ⟨h1, h2⟩
    exact ⟨fun i _ => h1 i, List.Nodup.pairwise_of_forall_ne (by decide) fun i _ j _ hij => h2 i j hij⟩

theorem mem_claimedByOthers (i : InstrId) (b : BusId) :
    b ∈ s.claimedByOthers i ↔ ∃ j, j ≠ i ∧ b ∈ (s.record j).buses := by
  simp [State.claimedByOthers, mem_allInsts]

/-- The check of INSTR_SET on the claims of a record keeps every bus claimed once (R45, R46). -/
theorem claimsSound_setRecord (i : InstrId) (r : InstrRecord) (h : claimsSound s i r = true) (hs : ClaimsSound s) :
    ClaimsSound { s with records := s.records.set i r } := by
  simp only [claimsSound, Bool.and_eq_true, decide_eq_true_eq, List.all_eq_true, Bool.not_eq_true',
    List.contains_eq_mem, decide_eq_false_iff_not, mem_claimedByOthers, not_exists, not_and] at h
  obtain ⟨own, others⟩ := h
  rw [claimsSound_iff] at hs ⊢
  obtain ⟨each, apart⟩ := hs
  have fresh : ∀ j, j ≠ i → List.Disjoint r.buses (s.record j).buses := fun j hj b hb hb' => others b hb j hj hb'
  refine ⟨fun j => ?_, fun j k hjk => ?_⟩
  · rw [State.record_setRecords]
    split
    · exact own
    · exact each j
  · rw [State.record_setRecords, State.record_setRecords]
    split
    · rename_i hj
      rw [if_neg (by rintro rfl; exact hjk hj.symm)]
      exact fresh k (by rintro rfl; exact hjk hj.symm)
    · split
      · rename_i hk
        exact (fresh j (by rintro rfl; exact hjk hk)).symm
      · exact apart j k hjk

/-- A record is replaced together with the source state that belongs to it (R46, R113). -/
theorem setRecord_quiet (i : InstrId) (r : InstrRecord) (h : claimsSound s i r = true) :
    Quiet s (State.setPort { s with records := s.records.set i r } i
      { s.port i with source := sourceAfterSet (s.record i) r (s.port i).source }) where
  reserve := id
  link := id
  stores := id
  claims := claimsSound_setRecord s i r h
  ports := by
    intro hp j
    show Port.soundUnder (State.record { s with records := s.records.set i r } j) ((s.setPort i _).port j)
    rw [State.record_setRecords]
    by_cases e : i = j
    · subst e
      rw [if_pos rfl, State.setPort_port_same]
      exact ⟨fun hc => by simp [sourceAfterSet, hc], (hp i).2⟩
    · rw [if_neg e, State.setPort_port_other s i _ j e]
      exact hp j
  queues := id
  runs := id
  room := id

theorem disablePort_quiet (i : InstrId) : Quiet s (disablePort i s) := by
  have dropped : Quiet s (s.setPort i { s.port i with
      state := .disabled, awaited := none, user := none, outstanding := none, respTimer := none, probeTimer := none,
      spacing := none, sentConfig := none, rxBytes := [] }) := .portFields s i _ rfl rfl
  exact dropped.trans (.trans (notice_quiet ..) (.ite (fun _ => portFreed_quiet ..) fun _ => .refl _))

theorem replaceRecord_quiet (i : InstrId) (r : InstrRecord) (h : claimsSound s i r = true) :
    Quiet s (replaceRecord i r s) :=
  (setRecord_quiet s i r h).trans (.ite (fun _ => .ite (fun _ => sendHello_quiet ..) fun _ => .refl _) fun _ =>
    .ite (fun _ => .refl _) fun _ => disablePort_quiet ..)

theorem execInstrSet_keeps (tag : Byte) (body : List Byte) : AnswerKeeps s (execInstrSet tag body s) := by
  refine (Keeps.settled (request_keeps s _ tag body _ _ fun u hu => ?_)).answer
  split
  · split
    · refine .ite (fun _ => reply_keeps hu) fun _ => .ite (fun _ => reply_keeps hu) fun h => ?_
      exact .replied hu (replaceRecord_quiet u _ _ (by simpa using h))
    · exact reply_keeps hu
  · exact .refl u

theorem execResponseTimeout_keeps (i : InstrId) : AnswerKeeps s (execResponseTimeout i s) := by
  unfold execResponseTimeout
  split
  · split
    · exact (whenRun_quiet s _ _ fun u => .after (settle_quiet _) (exchangeTimedOut_quiet u i)).answer
    · exact .same s
  · exact .same s

theorem execCancelSent_keeps (i : InstrId) : AnswerKeeps s (execCancelSent i s) := by
  unfold execCancelSent
  split
  · exact .quiet (.after (settle_quiet _) (cancelEnded_quiet s i))
  · exact .same s

theorem execProbeTimerExpiry_keeps (i : InstrId) : AnswerKeeps s (execProbeTimerExpiry i s) := by
  unfold execProbeTimerExpiry
  split
  · exact (whenRun_quiet s _ _ fun u => sendProbe_quiet u i).answer
  · exact .same s

theorem execRdyRawChange_keeps (i : InstrId) (level : Bool) : AnswerKeeps s (execRdyRawChange i level s) := by
  unfold execRdyRawChange
  dsimp only
  split
  · exact .same s
  · have changed : Quiet s (s.setPort i { s.port i with rawRdy := level, rdyChange := s.time }) :=
      .portFields s i _ rfl rfl
    split
    · exact (changed.trans (rdyChanged_quiet ..)).answer
    · exact changed.answer

theorem execRdyFilteredChange_keeps (i : InstrId) : AnswerKeeps s (execRdyFilteredChange i s) := by
  unfold execRdyFilteredChange
  dsimp only
  split
  · exact .same s
  · exact (whenRun_quiet s _ _ fun u => rdyChanged_quiet u i _).answer

theorem execTriggerPulseEnd_keeps (i : InstrId) : AnswerKeeps s (execTriggerPulseEnd i s) := by
  unfold execTriggerPulseEnd
  split
  · exact .quiet (whenRun_quiet s _ _ fun u => .portFields u i _ rfl rfl)
  · exact .same s

theorem execTriggerSpacing_keeps (i : InstrId) : AnswerKeeps s (execTriggerSpacing i s) := by
  unfold execTriggerSpacing
  split
  · split
    · exact (whenRun_quiet s _ _ fun u => giveTrigger_quiet u _ i).answer
    · exact .same s
  · exact .same s

/-! ### The fixture -/

theorem execInputRawChange_keeps (l : LineId) (level : Bool) : AnswerKeeps s (execInputRawChange l level s) := by
  unfold execInputRawChange
  dsimp only
  split
  · exact .same s
  · split
    · exact .quiet (.after (settle_quiet _) (.after (judgeLine_quiet ..) (.setLine s l _)))
    · exact (Quiet.setLine s l _).answer

theorem changeDue_quiet (l : LineId) : Quiet s (changeDue l s) := by
  unfold changeDue
  split
  · exact whenRun_quiet s _ _ fun u => .after (settle_quiet _) (judgeLine_quiet u l true)
  · exact .refl s

theorem lidDue_quiet (toClosed : Bool) : Quiet s (lidDue toClosed s) :=
  .ite (fun _ => .refl s) fun _ => changeDue_quiet ..

theorem rejudgeLines_quiet : Quiet s (rejudgeLines s) := .foldl _ _ s fun t l _ => judgeLine_quiet t l false

theorem execInputsSet_keeps (tag : Byte) (body : List Byte) : AnswerKeeps s (execInputsSet tag body s) := by
  refine (Keeps.settled (request_keeps s _ tag body _ _ fun u hu => ?_)).answer
  split
  · exact .replied hu (.after (rejudgeLines_quiet _) (.free u ..))
  · exact reply_keeps hu

theorem execLoadHeaderDone_keeps (answer : MemoryAnswer) : AnswerKeeps s (execLoadHeaderDone answer s) := by
  unfold execLoadHeaderDone
  split
  · split
    · exact .quiet (.after (settle_quiet _) (.after (endLoad_quiet ..) (.after (.setFixture _ _) (.setFixture s _))))
    · split
      · exact .quiet (.after (settle_quiet _) (.after (headerRead_quiet ..) (.setFixture s _)))
      · exact .same s
  · exact .same s

theorem execLoadBodyDone_keeps (answer : MemoryAnswer) : AnswerKeeps s (execLoadBodyDone answer s) := by
  unfold execLoadBodyDone
  split
  · split
    · exact .quiet (.after (settle_quiet _) (.after (endLoad_quiet ..) (.after (.setFixture _ _) (.setFixture s _))))
    · split
      · exact .quiet (.after (settle_quiet _) (.after (endLoad_quiet ..) (.setFixture s _)))
      · exact .same s
    · exact .same s
  · exact .same s

theorem execFixtureRead_keeps (tag : Byte) (body : List Byte) : AnswerKeeps s (execFixtureRead tag body s) :=
  (plainRequest_keeps s _ tag body _ fun _ hu => reply_keeps hu).answer

theorem putEmulated_quiet (i : Identity) : Quiet s (putEmulated i s) :=
  .after (judgeAll_quiet _) (.after (notice_quiet ..) (.setFixture s _))

theorem execFixtureDefine_keeps (tag : Byte) (body : List Byte) : AnswerKeeps s (execFixtureDefine tag body s) := by
  refine (request_keeps s _ tag body _ _ fun u hu => ?_).answer
  split
  · exact reply_keeps hu
  · exact .ite (fun _ => reply_keeps hu) fun _ => .ite (fun _ => reply_keeps hu) fun _ =>
      .replied hu (putEmulated_quiet u _)

theorem reloadFixture_quiet : Quiet s (reloadFixture s) :=
  .ite (fun _ => .after (judgeAll_quiet _) (beginLoad_quiet s)) fun _ =>
    .after (judgeAll_quiet _) (.after (notice_quiet ..) (.setFixture s _))

theorem execFixtureReload_keeps (tag : Byte) (body : List Byte) : AnswerKeeps s (execFixtureReload tag body s) := by
  refine (plainRequest_keeps s _ tag body _ fun u hu => ?_).answer
  exact .ite (fun _ => reply_keeps hu) fun _ => .ite (fun _ => reply_keeps hu) fun _ =>
    .ite (fun _ => reply_keeps hu) fun _ => .after (reloadFixture_quiet _).toKeeps (reply_keeps hu)

theorem execFixmemTake_keeps (tag : Byte) (body : List Byte) : AnswerKeeps s (execFixmemTake tag body s) := by
  refine (plainRequest_keeps s _ tag body _ fun u hu => ?_).answer
  exact .ite (fun _ => reply_keeps hu) fun _ => .ite (fun _ => reply_keeps hu) fun _ =>
    .replied hu (Quiet.setFixture u _)

theorem execFixmemGive_keeps (tag : Byte) (body : List Byte) : AnswerKeeps s (execFixmemGive tag body s) :=
  (plainRequest_keeps s _ tag body _ fun u hu =>
    .ite (fun _ => .replied hu (Quiet.setFixture u _)) fun _ => reply_keeps hu).answer

theorem takeMemory_keeps (kind tag : Byte) (command : EngineCommand) (transfer : Transfer) (items : List BusItem)
    (address length : Nat) (crosses : Bool) (hr : Room s) :
    Keeps s (takeMemory kind tag command transfer items address length crosses s) := by
  refine (Quiet.setFixture s { s.fixture with lastCommand := some (command, address, length), error := none }).toKeeps.trans
    (.ite (fun _ => .replied hr (Quiet.setFixture _ _)) fun _ => ?_)
  exact .after (.hold kind tag hr) (Quiet.setFixture _ _).toKeeps

theorem execFixmemRead_keeps (tag : Byte) (body : List Byte) : AnswerKeeps s (execFixmemRead tag body s) := by
  refine (request_keeps s _ tag body _ _ fun u hu => ?_).answer
  split
  · exact .ite (fun _ => reply_keeps hu) fun _ => .ite (fun _ => reply_keeps hu) fun _ =>
      takeMemory_keeps u _ _ _ _ _ _ _ _ hu
  · exact .refl u

theorem execFixmemWrite_keeps (tag : Byte) (body : List Byte) : AnswerKeeps s (execFixmemWrite tag body s) := by
  refine (request_keeps s _ tag body _ _ fun u hu => ?_).answer
  split
  · exact .ite (fun _ => reply_keeps hu) fun _ => .ite (fun _ => reply_keeps hu) fun _ =>
      takeMemory_keeps u _ _ _ _ _ _ _ _ hu
  · exact .refl u

theorem execFixmemReadDone_keeps (answer : MemoryAnswer) : AnswerKeeps s (execFixmemReadDone answer s) := by
  unfold execFixmemReadDone
  split
  · exact .quiet (.after (settle_quiet _) (.after (endTransfer_quiet ..) (.setFixture s _)))
  · split
    · exact .quiet (.after (settle_quiet _) (.after (endTransfer_quiet ..) (.setFixture s _)))
    · exact .same s
  · exact .same s

theorem execFixmemWriteDone_keeps (refused : Option Nat) : AnswerKeeps s (execFixmemWriteDone refused s) := by
  unfold execFixmemWriteDone
  split
  · exact .quiet (.after (.setFixture _ _) (.setFixture s _))
  · split
    · exact .quiet (.after (settle_quiet _) (.after (endTransfer_quiet ..) (.setFixture s _)))
    · exact .same s
  · exact .same s

theorem execFixmemWritePoll_keeps (ack : Bool) : AnswerKeeps s (execFixmemWritePoll ack s) := by
  unfold execFixmemWritePoll
  split
  · exact (whenRun_quiet s _ _ fun u => pollAnswered_quiet u ack _ _ _).answer
  · exact .same s

/-! ### The resets -/

theorem lidAtReset_quiet : Quiet s (lidAtReset s) := .ite (fun _ => beginLoad_quiet s) fun _ => .free s ..

theorem dropExchange_quiet (i : InstrId) : Quiet s (dropExchange i s) :=
  .after (.portFields _ i _ rfl rfl) (outputAbandoned_quiet ..)

theorem resetSourceOff_quiet (i : InstrId) : Quiet s (resetSourceOff i s) := by
  refine .ite (fun hc => ?_) fun _ => .refl s
  split
  · refine .after (.setPort _ i _ fun h => ?_) (transmit_quiet s i 0x03 (flagByte false))
    exact ⟨fun hf => absurd (hc.symm.trans hf) (by decide), h.2⟩
  · exact sendOutput_quiet ..
  all_goals exact .refl s

theorem resetPort_quiet (i : InstrId) : Quiet s (resetPort s i) :=
  .after (resetSourceOff_quiet ..) (.after (.setPort _ i _ fun h => ⟨h.1, Nat.zero_le 3⟩) (dropExchange_quiet ..))

theorem resetRoutes_quiet : Quiet s (resetRoutes s) :=
  .after (.setChain _ _) (.routing s _ _ _ (fun _ => Table.within_empty _) fun _ => (Table.within_empty 0).1)

theorem abandonPass_quiet : Quiet s (abandonPass s) := .ite (fun _ => countNoted_quiet s) fun _ => .refl s

theorem resetChain_quiet : Quiet s (resetChain s) := .setChain s _

theorem resetLeases_quiet : Quiet s (resetLeases s) :=
  .leases s _ fun _ i _ => by simp [State.lease]

theorem site_resetSites (n : SiteId) : (resetSites s).site n = (s.site n).softReset := by
  simp [resetSites, State.site]

theorem resetSites_quiet : Quiet s (resetSites s) where
  reserve := by
    intro hr
    have none : (resetSites s).runCount = 0 := by
      simp only [State.runCount, site_resetSites]
      rfl
    have := show s.queue.posted.length + s.runCount ≤ 1024 from hr
    show s.queue.posted.length + (resetSites s).runCount ≤ 1024
    omega
  link := id
  stores := id
  claims := id
  ports := id
  queues := id
  runs := by
    intro _ n hn
    rw [site_resetSites] at hn
    cases hn
  room := id

theorem resetLink_quiet : Quiet s (resetLink s) :=
  .setLink s _ (.inl (Nat.zero_le _)) (.inl (Nat.zero_le _)) fun _ _ h => by cases h

theorem clearLinkGroups_quiet : Quiet s (clearLinkGroups s) :=
  .setLink s _ (.inl le_rfl) (.inl le_rfl) fun _ _ => id

theorem resetFixture_quiet : Quiet s (resetFixture s) := by
  have read : Quiet s (readLid (clearLatches s)) := .after (.setLine _ _ _) (.free s ..)
  refine read.trans ?_
  refine .after (judgeAll_quiet _) (.after (.setFixture _ _) (.after (lidAtReset_quiet _) (.free _ ..)))

theorem softResetTaken_quiet : Quiet s (softResetTaken s) := by
  have ports := (resetLink_quiet s).trans (.foldl resetPort allInsts _ fun t i _ => resetPort_quiet t i)
  have pass := (ports.trans (resetRoutes_quiet _)).trans (abandonPass_quiet _)
  have sites := ((pass.trans (resetChain_quiet _)).trans (resetLeases_quiet _)).trans (resetSites_quiet _)
  exact .after (resetFixture_quiet _) (.after (clearLinkGroups_quiet _) (.after (.setQueue _ _ (Nat.zero_le _)) sites))

theorem execSoftResetEffect_keeps : AnswerKeeps s (execSoftResetEffect s) := by
  unfold execSoftResetEffect
  split
  · exact (softResetTaken_quiet s).answer
  · exact (softResetTaken_quiet s).answer
  · exact .same s

end Sys2Proof.Machine
end

section
/-! Power-on, the dispatch of the commands and the step: the invariants O57 to O59, and the reset state. -/

namespace Sys2Proof.Machine

variable (s : State)

/-! ### Power-on -/

theorem site_powerOnValues (rate : Fin 4) (lines : BitVec 17) (rdy : BitVec 6) (n : SiteId) :
    (State.powerOnValues rate lines rdy).site n = .powerOn := by
  simp [State.powerOnValues, State.site]

/-- With no route in use, no node claimed, nothing in the image and no identity in force the routes are sound. -/
theorem routesSound_of_empty (hr : s.routes = .empty) (hi : s.image = .allOpen) (hf : s.fixture.inForce = false) :
    RoutesSound s where
  claimed e r h := by
    rw [State.route, hr] at h
    cases h
  image k place := by
    have none : ∀ e, s.route e = none := fun e => by rw [State.route, hr]; rfl
    simp [hi, none, Matrix.allOpen]
  windows h := by
    rw [hf] at h
    cases h

/-- The power-on values have every invariant. -/
theorem powerOnValues_sound (rate : Fin 4) (lines : BitVec 17) (rdy : BitVec 6) :
    Sound (State.powerOnValues rate lines rdy) where
  reserve := by
    have none : (State.powerOnValues rate lines rdy).runCount = 0 := by
      simp only [State.runCount, site_powerOnValues]
      rfl
    show 0 + (State.powerOnValues rate lines rdy).runCount ≤ 1024
    omega
  link := ⟨Nat.zero_le 2, Nat.zero_le 16, fun ⟨_, _, h⟩ => by cases h⟩
  stores := ⟨Table.within_empty _, Table.within_empty _, Table.within_empty _, Table.within_empty _,
    (Table.within_empty 0).1, Table.within_empty _, fun _ h => by cases h⟩
  claims := by
    have bare : ∀ i, ((State.powerOnValues rate lines rdy).record i).buses = [] := fun i => by
      simp [State.powerOnValues, State.record, InstrRecord.powerOn, InstrRecord.buses]
    rw [claimsSound_iff]
    simp [bare]
  ports i := by simp [State.powerOnValues, State.port, Port.powerOn]
  queues i := by simp [State.powerOnValues, State.lease]
  runs n hn := by
    rw [site_powerOnValues] at hn
    cases hn
  routes := routesSound_of_empty _ rfl rfl rfl

variable {s} in
theorem Sound.keeps (h : Sound s) (u : State) : Keeps u s :=
  ⟨fun _ => h.reserve, fun _ => h.link, fun _ => h.stores, fun _ => h.claims, fun _ => h.ports, fun _ => h.queues,
    fun _ => h.runs⟩

variable {s} in
/-- The invariants of a state reach whatever is kept from it, but for that of the routes. -/
theorem Sound.of_keeps {t : State} (h : Sound s) (k : Keeps s t) (hr : RoutesSound t) : Sound t :=
  ⟨k.reserve h.reserve, k.link h.link, k.stores h.stores, k.claims h.claims, k.ports h.ports, k.queues h.queues,
    k.runs h.runs, hr⟩

theorem execPowerOnReset_keeps (rate1 rate0 : Bool) (lines : BitVec 17) (rdy : BitVec 6) :
    AnswerKeeps s (execPowerOnReset rate1 rate0 lines rdy s) := by
  refine Keeps.answer (((powerOnValues_sound (rateOf rate1 rate0) lines rdy).keeps s).trans (Quiet.toKeeps ?_))
  exact .after (.free _ ..) (lidAtReset_quiet _)

/-! ### Commands and steps -/

theorem exec_keeps (c : Instr) : AnswerKeeps s (exec c s) := by
  cases c with
  | powerOnReset => exact execPowerOnReset_keeps ..
  | unknownKindFrame => exact execUnknownKindFrame_keeps ..
  | ident => exact execIdent_keeps ..
  | statusSummary | statusSites | statusInstruments | statusRoutes | statusCards | statusInputs =>
    exact (statusRequest_keeps ..).answer
  | countersRead => exact execCountersRead_keeps ..
  | countersClearLink | countersClearWatchdog | countersClearPort | countersClearCard =>
    exact (countersClearRequest_keeps ..).answer
  | softReset => exact execSoftReset_keeps ..
  | softResetEffect => exact execSoftResetEffect_keeps ..
  | watchdogSet => exact execWatchdogSet_keeps ..
  | stepsLoad => exact execStepsLoad_keeps ..
  | stepsRead => exact execStepsRead_keeps ..
  | routedefLoad => exact execRoutedefLoad_keeps ..
  | limitsLoad => exact execLimitsLoad_keeps ..
  | calSet => exact execCalSet_keeps ..
  | calRead => exact execCalRead_keeps ..
  | instrSet => exact execInstrSet_keeps ..
  | cardSetCard | cardSetChain => exact (cardSetRequest_keeps ..).answer
  | cardReset => exact execCardReset_keeps ..
  | wearRead => exact execWearRead_keeps ..
  | wearLoad => exact execWearLoad_keeps ..
  | siteSet => exact execSiteSet_keeps ..
  | start => exact execStart_keeps ..
  | abort => exact execAbort_keeps ..
  | manual => exact execManual_keeps ..
  | direct => exact execDirect_keeps ..
  | siteClear => exact execSiteClear_keeps ..
  | varSet => exact execVarSet_keeps ..
  | varRead => exact execVarRead_keeps ..
  | flagRaise => exact execFlagRaise_keeps ..
  | flagClear => exact execFlagClear_keeps ..
  | fetch => exact execFetch_keeps ..
  | fixtureRead => exact execFixtureRead_keeps ..
  | fixtureDefine => exact execFixtureDefine_keeps ..
  | fixtureReload => exact execFixtureReload_keeps ..
  | fixmemTake => exact execFixmemTake_keeps ..
  | fixmemGive => exact execFixmemGive_keeps ..
  | fixmemRead => exact execFixmemRead_keeps ..
  | fixmemWrite => exact execFixmemWrite_keeps ..
  | inputsSet => exact execInputsSet_keeps ..
  | safeEnter => exact execSafeEnter_keeps ..
  | safeLeave => exact execSafeLeave_keeps ..
  | goodFrameArrival | frameLengthDrop => exact (receive_quiet ..).answer
  | fragmentGapExpiry => exact execFragmentGapExpiry_keeps ..
  | frameSent => exact execFrameSent_keeps ..
  | linkWatchdogExpiry => exact execLinkWatchdogExpiry_keeps ..
  | safeOrder => exact execSafeOrder_keeps ..
  | delayExpiry => exact execDelayExpiry_keeps ..
  | waitFlagTimeout => exact execWaitFlagTimeout_keeps ..
  | stepWatchdogExpiry => exact execStepWatchdogExpiry_keeps ..
  | quietOutcome => exact execQuietOutcome_keeps ..
  | grantEvent => exact execGrantEvent_keeps ..
  | makeTimerExpiry => exact execMakeTimerExpiry_keeps ..
  | releaseTimerExpiry => exact execReleaseTimerExpiry_keeps ..
  | discoveryEnd => exact execDiscoveryEnd_keeps ..
  | writeFrameSent => exact execWriteFrameSent_keeps ..
  | latch => exact execLatch_keeps ..
  | readFrameAnswer => exact execReadFrameAnswer_keeps ..
  | refreshExpiry => exact execRefreshExpiry_keeps ..
  | portAck | portNak | portValue | portIdent | portUnknownKindMessage | portBadChecksum =>
    exact (portReceive_quiet ..).answer
  | responseTimeout => exact execResponseTimeout_keeps ..
  | cancelSent => exact execCancelSent_keeps ..
  | probeTimerExpiry => exact execProbeTimerExpiry_keeps ..
  | rdyRawChange => exact execRdyRawChange_keeps ..
  | rdyFilteredChange => exact execRdyFilteredChange_keeps ..
  | triggerPulseEnd => exact execTriggerPulseEnd_keeps ..
  | triggerSpacing => exact execTriggerSpacing_keeps ..
  | inputRawChange => exact execInputRawChange_keeps ..
  | seatChange | startChange => exact (changeDue_quiet ..).answer
  | lidOpen | lidClose => exact (lidDue_quiet ..).answer
  | loadHeaderDone => exact execLoadHeaderDone_keeps ..
  | loadBodyDone => exact execLoadBodyDone_keeps ..
  | fixmemReadDone => exact execFixmemReadDone_keeps ..
  | fixmemWriteDone => exact execFixmemWriteDone_keeps ..
  | fixmemWritePoll => exact execFixmemWritePoll_keeps ..

theorem idleStep_keeps : AnswerKeeps s (idleStep s) := by
  unfold idleStep
  split
  · split
    · exact exec_keeps ..
    · exact (Quiet.setTime s _).answer
  · exact (settle_quiet s).answer

/-- A step keeps every invariant but that of the routes, from any state. -/
theorem step_keeps : AnswerKeeps s (step s) := by
  unfold step
  split
  · rename_i c rest _
    exact ⟨fun t ht => (Quiet.free s ..).toKeeps.trans ((exec_keeps { s with pending := rest } c).keeps t ht)⟩
  · exact idleStep_keeps s

/-- Settles O57: the record of a post finds a slot outside the reserve, and the record of a run takes the slot that its site
leaves. -/
theorem stepsKeepTheResultReserve : Obligations.StepsKeepTheResultReserve :=
  fun s t hs ht => ((step_keeps s).keeps t ht).reserve hs

/-- Settles O58: one invariant after another, each from its part of `step_keeps`. -/
theorem stepsKeepBoundsClaimsAndRunNumbers : Obligations.StepsKeepBoundsClaimsAndRunNumbers :=
  ⟨fun s t hs ht => ((step_keeps s).keeps t ht).link hs, fun s t hs ht => ((step_keeps s).keeps t ht).claims hs,
    fun s t hs ht => ((step_keeps s).keeps t ht).ports hs, fun s t hs ht => ((step_keeps s).keeps t ht).queues hs,
    fun s t hs ht => ((step_keeps s).keeps t ht).runs hs⟩

/-- Settles O59: every write of a store goes to a place below its capacity. -/
theorem stepsKeepTheStoresCanonical : Obligations.StepsKeepTheStoresCanonical :=
  fun s t hs ht => ((step_keeps s).keeps t ht).stores hs

end Sys2Proof.Machine
end

section
/-! The step and the reset: which command a step takes, and what power-on leaves in every block. -/

namespace Sys2Proof.Machine

variable (s : State)

/-! ### A step -/

theorem step_front (c : Instr) (rest : List Instr) (h : s.pending = c :: rest) :
    step s = exec c { s with pending := rest } := by
  simp [step, h]

theorem step_due (c : Instr) (hp : s.pending = []) (ha : s.agenda = []) (hd : dueEvent s = some c) :
    step s = exec c s := by
  simp [step, hp, idleStep, ha, hd]

theorem step_tick (hp : s.pending = []) (ha : s.agenda = []) (hd : dueEvent s = none) : step s = .next (tick s) := by
  simp [step, hp, idleStep, ha, hd]

/-- Settles O1: the front of the queue, else the event due, else a tick. -/
theorem stepTakesTheFrontCommand : Obligations.StepTakesTheFrontCommand :=
  ⟨fun c rest s h => step_front s c rest h, fun c s hp ha hd => step_due s c hp ha hd,
    fun s hp ha hd => step_tick s hp ha hd⟩

/-! ### Power-on -/

/-- LID at the release of RESET_N (R177, R186): low is closed and a load begins, high is open and a safe cause. -/
theorem lidAtReset_powerOnValues (rate : Fin 4) (lines : BitVec 17) (rdy : BitVec 6) :
    lidAtReset (State.powerOnValues rate lines rdy) = { State.powerOnValues rate lines rdy with
      safe := ⟨lines.getLsbD 16, false, false⟩
      fixture := if lines.getLsbD 16 then .powerOn else
        { Fixture.powerOn with
          state := .loading, loadStep := some .header, busy := true, lastCommand := some (.loadHeader, 0, 9),
          sent := readItems 0 } } := by
  have lid : (State.powerOnValues rate lines rdy).lidClosed = !lines.getLsbD 16 := by
    simp [State.powerOnValues, State.lidClosed, State.line, lidLine, InputLine.powerOn]
  simp only [lidAtReset, lid]
  cases lines.getLsbD 16 <;> rfl

theorem exec_powerOnReset (rate1 rate0 : Bool) (lines : BitVec 17) (rdy : BitVec 6) :
    exec (.powerOnReset rate1 rate0 lines rdy) s =
      .next { State.powerOnValues (rateOf rate1 rate0) lines rdy with
        safe := ⟨lines.getLsbD 16, false, false⟩
        fixture := if lines.getLsbD 16 then .powerOn else
          { Fixture.powerOn with
            state := .loading, loadStep := some .header, busy := true, lastCommand := some (.loadHeader, 0, 9),
            sent := readItems 0 }
        freeIndex := s.freeIndex
        pending := s.pending } := by
  show execPowerOnReset rate1 rate0 lines rdy s = _
  rw [execPowerOnReset, lidAtReset_powerOnValues]

/-- Settles O3: power-on gives the values of `State.powerOnValues`, and LID decides between the load and the safe cause. -/
theorem powerOnResetSetsEveryBlock : Obligations.PowerOnResetSetsEveryBlock := by
  intro rate1 rate0 pins rdy s
  refine ⟨_, exec_powerOnReset s rate1 rate0 pins rdy, rfl, ?_, ⟨rfl, rfl, rfl, rfl, rfl, rfl⟩, ?_, ?_, ?_, ?_,
    ⟨rfl, rfl, rfl, rfl, rfl, rfl, rfl⟩, rfl, ?_, rfl, ?_, ?_, rfl, rfl⟩
  case refine_1 =>
    refine ⟨rfl, rfl, rfl, rfl, rfl, rfl, rfl, rfl, ?_⟩
    cases rate1 <;> cases rate0 <;> rfl
  case refine_2 => intro i r; simp [State.calEntry, State.powerOnValues, CalEntry.powerOn]
  case refine_3 => exact fun n => site_powerOnValues (rateOf rate1 rate0) pins rdy n
  case refine_4 =>
    intro i
    simp [State.lease, State.record, State.port, State.powerOnValues, InstrRecord.powerOn, Port.powerOn,
      PortCounters.clear]
  case refine_5 =>
    intro k
    simp [State.powerOnValues, Matrix.allOpen, Chain.powerOn, State.card, Card.powerOn]
  case refine_6 => intro l; simp [State.line, State.powerOnValues, InputLine.powerOn]
  case refine_7 => split <;> rfl
  case refine_8 => intro n; simp [State.powerOnValues]

/-- Settles O4: the reset state differs from the power-on values in the load that has begun, which no invariant speaks of. -/
theorem resetStateIsSound : Obligations.ResetStateIsSound := by
  refine ⟨exec_powerOnReset .reset false false 0 0, ?_⟩
  have atPowerOn : Sound (State.powerOnValues 0 0 0) := powerOnValues_sound 0 0 0
  have kept : Quiet (State.powerOnValues 0 0 0) .reset := .setFixture _ _
  exact atPowerOn.of_keeps kept.toKeeps (routesSound_of_empty _ rfl rfl rfl)

end Sys2Proof.Machine
end

section
/-! The abandonment of a step (R8, R108, R179): what it leaves of every part of the state. -/

namespace Sys2Proof.Machine

variable (s : State)

/-! ### Operations that change the ports alone -/

/-- The ports may differ, and nothing else does. -/
def PortsOnly (s t : State) : Prop := t = { s with ports := t.ports }

variable {s} in
theorem PortsOnly.trans {t u : State} (h : PortsOnly s t) (k : PortsOnly t u) : PortsOnly s u := by
  unfold PortsOnly at *
  rw [k, h]

theorem PortsOnly.refl : PortsOnly s s := rfl

theorem PortsOnly.setPort (i : InstrId) (p : Port) : PortsOnly s (s.setPort i p) := rfl

theorem PortsOnly.foldl {α : Type} (f : State → α → State) (xs : List α) (hone : ∀ s a, PortsOnly s (f s a)) :
    PortsOnly s (xs.foldl f s) :=
  foldl_keeps s (PortsOnly s) f xs (fun t a h => h.trans (hone t a)) (.refl s)

theorem outputAbandoned_portsOnly (i : InstrId) (a : Option Awaited) : PortsOnly s (outputAbandoned i a s) := by
  unfold outputAbandoned
  split
  · rfl
  · split <;> rfl
  · rfl

theorem abandonPort_portsOnly (n : SiteId) (i : InstrId) : PortsOnly s (abandonPort n s i) := by
  simp only [abandonPort]
  split
  · exact (outputAbandoned_portsOnly ..).trans rfl
  · split <;> rfl

/-! ### The ports of an abandoned step -/

theorem outputAbandoned_port_other (i j : InstrId) (a : Option Awaited) (h : i ≠ j) :
    (outputAbandoned i a s).port j = s.port j := by
  unfold outputAbandoned
  split
  · exact State.setPort_port_other s i _ j h
  · split
    · rfl
    · exact State.setPort_port_other s i _ j h
  · rfl

theorem abandonPort_port_other (n : SiteId) (i j : InstrId) (h : i ≠ j) : (abandonPort n s i).port j = s.port j := by
  simp only [abandonPort]
  split
  · simp only [sendCancel, transmit]
    rw [State.setPort_port_other _ i _ j h, State.setPort_port_other _ i _ j h, outputAbandoned_port_other _ _ _ _ h]
  · split
    · exact State.setPort_port_other s i _ j h
    · rfl

/-- What an abandoned OUTPUT leaves of the source state (R108). -/
def abandonedSource (r : InstrRecord) (p : Port) : SourceState :=
  if p.awaited = some .outputOn ∨ (p.awaited = some .outputOff ∧ p.source ≠ .off) then
    if r.sourceCapable then .unknown else .off
  else p.source

theorem outputAbandoned_eq (i : InstrId) :
    outputAbandoned i (s.port i).awaited s =
      s.setPort i { s.port i with source := abandonedSource (s.record i) (s.port i) } := by
  unfold outputAbandoned abandonedSource
  split
  · rename_i h
    simp [h, setSource]
  · rename_i h
    by_cases hs : (s.port i).source = .off
    · rw [if_pos hs, if_neg (by simp [h, hs]), State.setPort_own]
    · rw [if_neg hs, if_pos (by simp [h, hs])]
      rfl
  · rename_i h1 h2
    rw [if_neg (by rintro (h | ⟨h, -⟩) <;> contradiction), State.setPort_own]

/-- A port as it stands during the CANCEL that ends a step's exchange (R108). -/
def Port.cancelled (r : InstrRecord) (p : Port) : Port :=
  { p with
    state := .command, awaited := some .cancel, user := none, outstanding := none, respTimer := none
    sentConfig := none, seq := p.seq + 1, rxBytes := [], cancelEnd := .idle
    lastSent := messageBytes ⟨0x05, p.seq + 1, []⟩
    source := abandonedSource r p }

/-- A port as STOP leaves it of a step of site `n`: its exchange ends in a CANCEL, or its spacing wait is dropped. -/
def Port.abandoned (n : SiteId) (r : InstrRecord) (p : Port) : Port :=
  if p.user = some (.site n) ∧ p.engaged then p.cancelled r
  else if p.spacing.any (fun x => x.1 == n) then { p with spacing := none }
  else p

theorem State.setPort_setPort (i : InstrId) (p q : Port) : (s.setPort i p).setPort i q = s.setPort i q := by
  simp [State.setPort]

theorem abandonPort_port_same (n : SiteId) (i : InstrId) :
    (abandonPort n s i).port i = (s.port i).abandoned n (s.record i) := by
  simp only [abandonPort, Port.abandoned]
  split
  · rw [outputAbandoned_eq, sendCancel, transmit]
    simp only [State.setPort_port_same]
    rfl
  · split
    · exact State.setPort_port_same ..
    · rfl

theorem foldl_port_other (f : State → InstrId → State) (hother : ∀ s i j, i ≠ j → (f s i).port j = s.port j)
    (is : List InstrId) (i : InstrId) (h : i ∉ is) : (is.foldl f s).port i = s.port i := by
  induction is generalizing s with
  | nil => rfl
  | cons x rest ih =>
    rw [List.mem_cons, not_or] at h
    rw [List.foldl_cons, ih _ h.2, hother s x i (Ne.symm h.1)]

/-- One port after another is changed, each by itself: a port ends as its own operation leaves it. -/
theorem foldl_port (f : State → InstrId → State) (g : Time → InstrRecord → Port → Port)
    (hsame : ∀ s i, (f s i).port i = g s.time (s.record i) (s.port i)) (hother : ∀ s i j, i ≠ j → (f s i).port j = s.port j)
    (honly : ∀ s i, PortsOnly s (f s i)) (is : List InstrId) (hd : is.Nodup) (i : InstrId) (hi : i ∈ is) :
    (is.foldl f s).port i = g s.time (s.record i) (s.port i) := by
  induction is generalizing s with
  | nil => cases hi
  | cons x rest ih =>
    rw [List.nodup_cons] at hd
    rw [List.foldl_cons]
    rcases List.mem_cons.1 hi with rfl | hrest
    · rw [foldl_port_other _ f hother rest i hd.1, hsame]
    · have hne : x ≠ i := by rintro rfl; exact hd.1 hrest
      have hrec : (f s x).record i = s.record i := by rw [honly s x]; rfl
      have htime : (f s x).time = s.time := by rw [honly s x]
      rw [ih _ hd.2 hrest, hrec, htime, hother s x i hne]

theorem leftPorts_portsOnly (n : SiteId) : PortsOnly (leaveSpace n (leaveQueues n s)) (leftPorts n s) :=
  .foldl _ _ _ fun t i => abandonPort_portsOnly t n i

theorem leftPorts_port (n : SiteId) (i : InstrId) : (leftPorts n s).port i = (s.port i).abandoned n (s.record i) :=
  foldl_port (leaveSpace n (leaveQueues n s)) (abandonPort n) (fun _ => Port.abandoned n)
    (fun t i => abandonPort_port_same t n i) (fun t i j => abandonPort_port_other t n i j)
    (fun t i => abandonPort_portsOnly t n i) allInsts (by decide) i (mem_allInsts i)

/-! ### The whole abandonment -/

/-- The leases, the queue and the agenda of a state, changed as STOP of site `n` changes them; the sites and the ports as
they stand in `t`. -/
def StopsIn (n : SiteId) (s t : State) : Prop := t = { s with
  sites := t.sites
  leases := (leaveQueues n s).leases
  queue := { s.queue with space := s.queue.space.filter (· != n) }
  agenda := s.agenda.filter fun e => e.1 != n
  ports := t.ports }

theorem StopsIn.leases {s t : State} {n : SiteId} (h : StopsIn n s t) : t.leases = (leaveQueues n s).leases := by
  rw [h]

theorem dropStep_stopsIn (n : SiteId) (t : State) (h : PortsOnly (leaveSpace n (leaveQueues n s)) t) :
    StopsIn n s (dropStep n t) := by
  unfold PortsOnly at h
  rw [h]
  rfl

/-- STOP touches the site contexts, the wait queues, the space list, the agenda and the ports. -/
theorem abandonStep_shape (n : SiteId) : StopsIn n s (abandonStep n s) := by
  rw [abandonStep_eq]
  exact dropStep_stopsIn s n _ (leftPorts_portsOnly s n)

theorem abandonStep_time (n : SiteId) : (abandonStep n s).time = s.time := by
  rw [abandonStep_shape]

theorem abandonStep_port (n : SiteId) (i : InstrId) :
    (abandonStep n s).port i = (s.port i).abandoned n (s.record i) := by
  rw [abandonStep_eq, ← leftPorts_port]
  generalize leftPorts n s = t
  rfl

theorem abandonStep_site_other (n m : SiteId) (h : m ≠ n) : (abandonStep n s).site m = s.site m := by
  rw [abandonStep_eq, ← site_of_sites (leftPorts_sites s n) m]
  generalize leftPorts n s = t
  exact State.setSite_site_other _ n _ m h.symm

theorem abandonStep_lease (n : SiteId) (i : InstrId) :
    (abandonStep n s).lease i = { s.lease i with queue := (s.lease i).queue.filter (· != n) } := by
  rw [← lease_leaveQueues, State.lease, (abandonStep_shape s n).leases, State.lease]

end Sys2Proof.Machine
end

section
/-! The ends of steps and the taking of the step selected (O14). -/

namespace Sys2Proof.Machine

variable (s : State)

/-! ### Ends of a step -/

theorem State.works_iff (n : SiteId) : s.works n = true ↔ (s.site n).state = .run ∨ (s.site n).state = .manual := by
  simp [State.works]

theorem Site.inStep_iff (c : Site) : c.inStep = true ↔ c.phase ≠ .noStep := by simp [Site.inStep]

/-- A cause that reaches a working site is the entry and then the phases (R5, R178). -/
theorem enterTeardown_works (n : SiteId) (cause : Cause) (err : Option StepError)
    (h : (s.site n).state = .run ∨ (s.site n).state = .manual) :
    enterTeardown n cause err s = runTeardown n (teardownEntry n cause err s) := by
  simp [enterTeardown, (State.works_iff s n).2 h]

theorem stepError_run (n : SiteId) (err : StepError) (h : (s.site n).state = .run) :
    stepError n err s = runTeardown n (teardownEntry n .stepError (some err) s) := by
  rw [← enterTeardown_works s n _ _ (.inl h)]
  simp [stepError, h]

theorem stepError_manual (n : SiteId) (err : StepError) (r : StepRecord) (h : (s.site n).state = .manual)
    (hp : (s.site n).phase ≠ .noStep) (ht : (s.site n).taking = some r) :
    stepError n err s = stepDoneNotice n r 2 none (some err)
      ((abandonStep n s).setSite n { (abandonStep n s).site n with phase := .noStep }) := by
  simp [stepError, h, (Site.inStep_iff _).2 hp, ht]

/-- A step error reaches no site that has no step in progress. -/
theorem stepError_other (n : SiteId) (err : StepError) (hr : (s.site n).state ≠ .run)
    (h : (s.site n).state ≠ .manual ∨ (s.site n).phase = .noStep ∨ (s.site n).taking = none) :
    stepError n err s = s := by
  simp only [stepError, hr, if_false]
  split
  · rename_i hm
    rcases h with h | h | h
    · exact absurd hm.1 h
    · exact absurd h ((Site.inStep_iff _).1 hm.2)
    · simp [h]
  · rfl

/-! ### The step selected -/

theorem sat32_eq (c : BitVec 32) : sat32 c = if c = 4294967295 then 4294967295 else c + 1 := by
  unfold sat32
  split
  · rename_i h; exact h
  · rfl

/-- The first item of the agenda is taken, and one step of the event's budget is spent. -/
theorem settle_first (n : SiteId) (t : Todo) (rest : List (SiteId × Todo)) (h : s.agenda = (n, t) :: rest) :
    settle s = runAgenda 4095 (runTodo n t { s with agenda := rest }) := settle_cons s n t rest h

/-- A site in RUN as it takes a slot (R13, steps 1 to 3). -/
theorem Site.takeSlot_run (c : Site) (now : Time) (k : Nat) (h : c.state = .run) :
    c.takeSlot now k = { c with
      current := some (.slot k)
      phase := .step
      stepsTaken := if c.stepsTaken = 4294967295 then 4294967295 else c.stepsTaken + 1
      watchdog := if c.watchdogLimit.toNat = 0 then none else some ⟨now, c.watchdogLimit.toNat * 1000⟩ } := by
  simp only [Site.takeSlot, h, if_true, sat32_eq]
  rfl

theorem takeStep_filled (n : SiteId) (k : Nat) (r : StepRecord) (h : s.steps.get k = some r) :
    takeStep n k s = performStep n r (s.setSite n { (s.site n).takeSlot s.time k with taking := some r }) := by
  simp [takeStep, h]

theorem takeStep_empty (n : SiteId) (k : Nat) (h : s.steps.get k = none) :
    takeStep n k s = stepError n .badStep (s.setSite n ((s.site n).takeSlot s.time k)) := by
  simp [takeStep, h]

theorem runTodo_take_filled (n : SiteId) (k : Nat) (r : StepRecord) (h : (s.site n).state = .run)
    (hk : s.steps.get k = some r) : runTodo n (.take k) s = performStep n r (s.setSite n { s.site n with
      current := some (.slot k)
      phase := .step
      stepsTaken := if (s.site n).stepsTaken = 4294967295 then 4294967295 else (s.site n).stepsTaken + 1
      watchdog := if (s.site n).watchdogLimit.toNat = 0 then none
                  else some ⟨s.time, (s.site n).watchdogLimit.toNat * 1000⟩
      taking := some r }) := by
  rw [runTodo, if_pos h]
  exact (takeStep_filled s n k r hk).trans (by rw [Site.takeSlot_run _ _ _ h])

theorem runTodo_take_empty (n : SiteId) (k : Nat) (h : (s.site n).state = .run) (hk : s.steps.get k = none) :
    runTodo n (.take k) s = stepError n .badStep (s.setSite n { s.site n with
      current := some (.slot k)
      phase := .step
      stepsTaken := if (s.site n).stepsTaken = 4294967295 then 4294967295 else (s.site n).stepsTaken + 1
      watchdog := if (s.site n).watchdogLimit.toNat = 0 then none
                  else some ⟨s.time, (s.site n).watchdogLimit.toNat * 1000⟩ }) := by
  rw [runTodo, if_pos h]
  exact (takeStep_empty s n k hk).trans (by rw [Site.takeSlot_run _ _ _ h])

theorem runTodo_enter (n : SiteId) (cause : Cause) (err : Option StepError) (h : (s.site n).state = .run) :
    runTodo n (.enter cause err) s = runTeardown n (teardownEntry n cause err s) := by
  simp only [runTodo, h, if_true]
  exact enterTeardown_works s n cause err (.inl h)

/-- Settles O14, clause by clause from the equations of `finishStep`, `stepError` and `settle`. -/
theorem stepsEndAndAreSelected : Obligations.StepsEndAndAreSelected := by
  refine ⟨⟨?_, ?_⟩, ⟨rfl, fun n err s h => stepError_run s n err h, ?_, ?_⟩, ?_, ?_, ?_, ?_, ?_⟩
  · intro n failed bin r s ht hs
    rw [finishStep_run s n failed bin r ht hs]
    rfl
  · intro n failed bin r s ht hs
    rw [finishStep_manual s n failed bin r ht (by simp [hs])]
    cases bin <;> rfl
  · intro n err r s h hp ht
    rw [stepError_manual s n err r h hp ht, stepDoneNotice, timeBytes, State.setSite_time, abandonStep_time]
    rfl
  · exact fun n err s hr h => stepError_other s n err hr h
  · intro n k r rest s ha hs hk
    refine (settle_first s n _ rest ha).trans (congrArg (runAgenda 4095) ?_)
    exact runTodo_take_filled { s with agenda := rest } n k r hs hk
  · intro n k rest s ha hs hk
    refine (settle_first s n _ rest ha).trans (congrArg (runAgenda 4095) ?_)
    exact runTodo_take_empty { s with agenda := rest } n k hs hk
  · intro n cause err rest s ha hs
    refine (settle_first s n _ rest ha).trans (congrArg (runAgenda 4095) ?_)
    exact runTodo_enter { s with agenda := rest } n cause err hs
  · intro n todo rest s ha hs
    refine (settle_first s n todo rest ha).trans (congrArg (runAgenda 4095) ?_)
    exact runTodo_rest { s with agenda := rest } n todo hs
  · exact fun s h => settle_nil s h

end Sys2Proof.Machine
end

section
/-! Requests: the fields of a body, and how an answer follows from what the handler does (R191, R193, R194). -/

namespace Sys2Proof.Machine

variable (s : State)

/-! ### Fields of a body -/

@[simp] theorem readSite_ofNat (n : SiteId) : readSite (BitVec.ofNat 8 n) = some n := by
  have hn : n.val % 256 = n.val := Nat.mod_eq_of_lt (by omega)
  simp [readSite, hn]

theorem readSite_none (b : Byte) (h : 7 < b.toNat) : readSite b = none := by simp [readSite]; omega

@[simp] theorem readIndex8_ofNat (k : Fin 8) : readIndex8 (BitVec.ofNat 8 k) = some k := by
  have hk : k.val % 256 = k.val := Nat.mod_eq_of_lt (by omega)
  simp [readIndex8, hk]

theorem readIndex8_none (b : Byte) (h : 7 < b.toNat) : readIndex8 b = none := by simp [readIndex8]; omega

theorem readFlag_some (b : Byte) (h : b.toNat ≤ 1) : readFlag b = some (decide (b = 1)) := by
  have hb : b = 0 ∨ b = 1 := by bv_omega
  rcases hb with rfl | rfl <;> rfl

theorem readFlag_none (b : Byte) (h : 1 < b.toNat) : readFlag b = none := by
  have h0 : b ≠ 0 := by bv_omega
  have h1 : b ≠ 1 := by bv_omega
  rw [readFlag, if_neg h0, if_neg h1]

theorem ofNat_read16 (lo hi : Byte) : BitVec.ofNat 16 (read16 lo hi) = hi ++ lo := by
  apply BitVec.eq_of_toNat_eq
  have hlo := lo.isLt
  have hhi := hi.isLt
  simp only [read16, BitVec.toNat_ofNat, BitVec.toNat_append]
  rw [← Nat.shiftLeft_add_eq_or_of_lt hlo, Nat.shiftLeft_eq]
  omega

theorem variableRange_iff (v : Int) : variableRange v = true ↔ v.natAbs ≤ 134217727 := by
  simp only [variableRange, decide_eq_true_eq]
  omega

@[simp] theorem safe_holds_iff (c : SafeSet) : c.holds = true ↔ c ≠ ⟨false, false, false⟩ := by
  rcases c with ⟨_ | _, _ | _, _ | _⟩ <;> simp [SafeSet.holds]

/-! ### Sending, and a site written twice -/

@[simp] theorem send_site (f : Frame) (n : SiteId) : (send f s).site n = s.site n := rfl

@[simp] theorem State.setSite_setSite (n : SiteId) (c d : Site) : (s.setSite n c).setSite n d = s.setSite n d := by
  simp [State.setSite]

/-! ### Answers -/

/-- A command that takes a request, and what its handler does where the guard holds: the effect, after the steps that were
selected where the command settles. -/
theorem Answers.of {c : Instr} {kind tag : Byte} {body : List Byte} {guard : State → Prop} {effect : State → State}
    (after handler : State → State) (hc : ∀ s, exec c s = .next (after (takeRequest kind tag body handler s)))
    (hh : ∀ s, guard s → after (handler s) = effect s) : Answers c ⟨kind, tag, body⟩ guard effect := by
  intro s ht hg
  rw [hc, takeRequest_takes s kind tag body handler ht, hh _ hg]

end Sys2Proof.Machine
end

section
/-! Records are read back as written, and none out of range is read (O56; R9, R11, R52, R123). -/

namespace Sys2Proof.Machine

/-! ### Fields -/

theorem read16_le16 (n : Nat) (h : n < 65536) : read16 (BitVec.ofNat 8 n) (BitVec.ofNat 8 (n / 256)) = n := by
  simp only [read16, BitVec.toNat_ofNat]
  omega

theorem read24_le24 (n : Nat) (h : n < 16777216) :
    read24 (BitVec.ofNat 8 n) (BitVec.ofNat 8 (n / 256)) (BitVec.ofNat 8 (n / 65536)) = n := by
  simp only [read24, BitVec.toNat_ofNat]
  omega

theorem ofNat_read16_le16 (w : BitVec 16) :
    BitVec.ofNat 16 (read16 (BitVec.ofNat 8 w.toNat) (BitVec.ofNat 8 (w.toNat / 256))) = w := by
  rw [read16_le16 _ w.isLt, BitVec.ofNat_toNat, BitVec.setWidth_eq]

theorem ofNat_read24_le24 (w : BitVec 24) :
    BitVec.ofNat 24 (read24 (BitVec.ofNat 8 w.toNat) (BitVec.ofNat 8 (w.toNat / 256)) (BitVec.ofNat 8 (w.toNat / 65536))) =
      w := by
  rw [read24_le24 _ w.isLt, BitVec.ofNat_toNat, BitVec.setWidth_eq]

theorem read32_le32 (n : Nat) (h : n < 4294967296) :
    read32 (BitVec.ofNat 8 n) (BitVec.ofNat 8 (n / 256)) (BitVec.ofNat 8 (n / 65536)) (BitVec.ofNat 8 (n / 16777216)) = n := by
  simp only [read32, BitVec.toNat_ofNat]
  omega

theorem ofNat_read32_le32 (w : BitVec 32) :
    BitVec.ofNat 32 (read32 (BitVec.ofNat 8 w.toNat) (BitVec.ofNat 8 (w.toNat / 256)) (BitVec.ofNat 8 (w.toNat / 65536))
      (BitVec.ofNat 8 (w.toNat / 16777216))) = w := by
  rw [read32_le32 _ w.isLt, BitVec.ofNat_toNat, BitVec.setWidth_eq]

theorem signed32_mod (i : Int) (hlow : -2147483648 ≤ i) (hhigh : i ≤ 2147483647) :
    signed32 (i % 4294967296).toNat = i := by
  simp only [signed32, BitVec.toInt_eq_toNat_bmod, BitVec.toNat_ofNat, Int.bmod_def]
  omega

theorem signed32_range (n : Nat) : -2147483648 ≤ signed32 n ∧ signed32 n ≤ 2147483647 := by
  have h1 := BitVec.le_toInt (BitVec.ofNat 32 n)
  have h2 := BitVec.toInt_lt (x := BitVec.ofNat 32 n)
  simp only [signed32] at *
  omega

theorem readInst_ofNat (i : InstrId) : readInst (BitVec.ofNat 8 i) = some i := by
  have hi : i.val % 256 = i.val := Nat.mod_eq_of_lt (by omega)
  simp [readInst, hi]

theorem readMode_code (m : ReduceMode) : readMode (BitVec.ofNat 8 (modeCode m)) = some m := by cases m <;> rfl

theorem readTerminal_code (t : Terminal) : readTerminal (BitVec.ofNat 8 (terminalCode t)) = some t := by cases t <;> rfl

/-! ### Step records -/

/-- The option byte of a MEASURE, bit by bit. -/
theorem measureOptions_bits (f : MeasureFields) :
    (measureOptions f).getLsbD 0 = f.record ∧ (measureOptions f).getLsbD 1 = f.requireZero ∧
      (measureOptions f).getLsbD 2 = f.route.isSome ∧ (measureOptions f).getLsbD 3 = f.limit.isSome ∧
      (measureOptions f).getLsbD 4 = f.store.isSome := by
  unfold measureOptions
  cases f.record <;> cases f.requireZero <;> cases f.route.isSome <;> cases f.limit.isSome <;> cases f.store.isSome <;>
    decide

/-- An optional field is read back under the bit that marks it present. -/
theorem option_of_isSome {α : Type} (o : Option α) (d : α) : (if o.isSome then some (o.getD d) else none) = o := by
  cases o <;> rfl

theorem readStore_getD (o : Option (Fin 8)) : readStore o.isSome (BitVec.ofNat 8 (o.getD 0)) = some o := by
  cases o with
  | none => rfl
  | some k => simp [readStore]

theorem readSamples_le16 (n : Nat) (h : 1 ≤ n ∧ n ≤ 256) :
    readSamples (BitVec.ofNat 8 n) (BitVec.ofNat 8 (n / 256)) = some n := by
  simp [readSamples, read16_le16 n (by omega), h]

theorem readStepKind_stepFields (k : StepKind) (h : k.inRange = true) :
    readStepKind (BitVec.ofNat 8 (stepKindCode k)) (stepFields k) = some k := by
  cases k with
  | acquire i => simp [readStepKind, stepKindCode, stepFields, padTo, u8, readInst_ofNat, List.replicate]
  | release i => simp [readStepKind, stepKindCode, stepFields, padTo, u8, readInst_ofNat, List.replicate]
  | connect d => rfl
  | disconnect d => cases d <;> rfl
  | configure i f =>
    simp only [StepKind.inRange, decide_eq_true_eq] at h
    have hr : ¬ (16 ≤ f.function.toNat ∨ 8 ≤ f.range.toNat ∨ 16 ≤ f.aperture.toNat) := by omega
    simp [-BitVec.ofNat_toNat, readStepKind, stepKindCode, stepFields, padTo, u8, le24, readInst_ofNat, List.replicate,
      ofNat_read24_le24, hr]
  | output i on =>
    cases on <;>
      simp [readStepKind, stepKindCode, stepFields, padTo, u8, flagByte, readInst_ofNat, List.replicate, readFlag]
  | measure f =>
    simp only [StepKind.inRange, decide_eq_true_eq] at h
    obtain ⟨h0, h1, h2, h3, h4⟩ := measureOptions_bits f
    simp [-BitVec.ofNat_toNat, -BitVec.ofNat_eq_ofNat, -BitVec.getLsbD_eq_getElem, readStepKind, stepKindCode,
      stepFields, padTo, u8, le16, readInst_ofNat, List.replicate, readSamples_le16 _ h, ofNat_read16_le16,
      readMode_code, h0, h1, h2, h3, h4, readStore_getD, option_of_isSome]
  | zero f =>
    simp only [StepKind.inRange, decide_eq_true_eq] at h
    simp [-BitVec.ofNat_toNat, readStepKind, stepKindCode, stepFields, padTo, u8, le16, readInst_ofNat, List.replicate,
      readSamples_le16 _ h, ofNat_read16_le16]
  | delay d =>
    simp [-BitVec.ofNat_toNat, readStepKind, stepKindCode, stepFields, padTo, le24, List.replicate, ofNat_read24_le24]
  | signal m => rfl
  | waitFlag m mode t =>
    have hm : ¬ m = 0#8 := by simpa [StepKind.inRange] using h
    cases mode <;>
      simp [-BitVec.ofNat_toNat, readStepKind, stepKindCode, stepFields, padTo, le16, flagByte, readFlag, List.replicate,
        ofNat_read16_le16, hm]
  | chainEnd => rfl

theorem readNext_code (n : Next) (h : n.inRange = true) :
    readNext (BitVec.ofNat 8 (nextCode n)) (BitVec.ofNat 8 (nextCode n / 256)) = some n := by
  cases n with
  | slot k =>
    have hk : k < 2048 := by simpa [Next.inRange] using h
    simp [readNext, nextCode, read16_le16 k (by omega), hk]
  | chainEnd => rfl

theorem nextCode_lt (n : Next) (h : n.inRange = true) : nextCode n < 65535 := by
  cases n with
  | slot k =>
    have hk : k < 2048 := by simpa [Next.inRange] using h
    exact Nat.lt_trans hk (by decide)
  | chainEnd => decide

/-- The code of an `on_fail` field. -/
def onFailCode : Option Next → Nat
  | some n => nextCode n
  | none => 0xFFFF

theorem stepRecordBytes_eq (r : StepRecord) : stepRecordBytes r =
    u8 (stepKindCode r.kind) ++ le16 r.tag.toNat ++ le16 (nextCode r.next) ++ le16 (onFailCode r.onFail) ++
      stepFields r.kind := by
  unfold stepRecordBytes
  cases r.onFail <;> rfl

theorem readOnFail_code (o : Option Next) (h : o.all Next.inRange = true) :
    readOnFail (BitVec.ofNat 8 (onFailCode o)) (BitVec.ofNat 8 (onFailCode o / 256)) = some o := by
  cases o with
  | none => rfl
  | some n =>
    have hn : n.inRange = true := h
    have hc := nextCode_lt n hn
    simp [readOnFail, onFailCode, read16_le16 _ (Nat.lt_succ_of_lt hc), Nat.ne_of_lt hc, readNext_code n hn]

theorem stepFields_length (k : StepKind) : (stepFields k).length = 13 := by
  rcases k with _ | _ | _ | (_ | _) | _ | _ | _ | _ | _ | _ | _ | _ <;> rfl

theorem stepRecordBytes_length (r : StepRecord) : (stepRecordBytes r).length = 20 := by
  simp [stepRecordBytes, u8, le16, stepFields_length]

theorem readStepRecord_bytes (r : StepRecord) (h : r.inRange = true) : readStepRecord (stepRecordBytes r) = some r := by
  simp only [StepRecord.inRange, Bool.and_eq_true] at h
  obtain ⟨⟨hnext, hfail⟩, hkind⟩ := h
  simp [-BitVec.ofNat_toNat, stepRecordBytes_eq, readStepRecord, u8, le16, readNext_code _ hnext, readOnFail_code _ hfail,
    readStepKind_stepFields _ hkind, ofNat_read16_le16]

/-! ### What is read lies inside its range -/

theorem readNext_inRange (lo hi : Byte) (n : Next) (h : readNext lo hi = some n) : n.inRange = true := by
  simp only [readNext] at h
  split at h
  · obtain rfl := Option.some.inj h
    simpa [Next.inRange]
  · split at h
    · obtain rfl := Option.some.inj h
      rfl
    · contradiction

theorem readOnFail_inRange (lo hi : Byte) (o : Option Next) (h : readOnFail lo hi = some o) :
    o.all Next.inRange = true := by
  simp only [readOnFail] at h
  split at h
  · obtain rfl := Option.some.inj h
    rfl
  · obtain ⟨n, hn, rfl⟩ := Option.map_eq_some_iff.1 h
    exact readNext_inRange lo hi n hn

theorem readSamples_inRange (lo hi : Byte) (n : Nat) (h : readSamples lo hi = some n) : 1 ≤ n ∧ n ≤ 256 := by
  simp only [readSamples] at h
  split at h
  · obtain rfl := Option.some.inj h
    assumption
  · contradiction

theorem readStepKind_inRange (kind : Byte) (fields : List Byte) (k : StepKind) (h : readStepKind kind fields = some k) :
    k.inRange = true := by
  unfold readStepKind at h
  split at h
  · split at h
    case h_5 =>
      obtain ⟨i, -, h⟩ := Option.bind_eq_some_iff.1 h
      split at h
      · contradiction
      · obtain rfl := Option.some.inj h
        simp only [StepKind.inRange, decide_eq_true_eq]
        omega
    case h_7 =>
      obtain ⟨i, -, h⟩ := Option.bind_eq_some_iff.1 h
      obtain ⟨range, -, h⟩ := Option.bind_eq_some_iff.1 h
      obtain ⟨samples, hs, h⟩ := Option.bind_eq_some_iff.1 h
      obtain ⟨mode, -, h⟩ := Option.bind_eq_some_iff.1 h
      obtain ⟨store, -, h⟩ := Option.bind_eq_some_iff.1 h
      obtain rfl := Option.some.inj h
      simpa [StepKind.inRange] using readSamples_inRange _ _ _ hs
    case h_8 =>
      obtain ⟨i, -, h⟩ := Option.bind_eq_some_iff.1 h
      obtain ⟨range, -, h⟩ := Option.bind_eq_some_iff.1 h
      obtain ⟨samples, hs, h⟩ := Option.bind_eq_some_iff.1 h
      obtain rfl := Option.some.inj h
      simpa [StepKind.inRange] using readSamples_inRange _ _ _ hs
    case h_11 =>
      obtain ⟨mode, -, h⟩ := Option.bind_eq_some_iff.1 h
      split at h
      · contradiction
      · obtain rfl := Option.some.inj h
        simpa [StepKind.inRange]
    case h_6 =>
      obtain ⟨i, -, h⟩ := Option.bind_eq_some_iff.1 h
      obtain ⟨on, -, h⟩ := Option.bind_eq_some_iff.1 h
      obtain rfl := Option.some.inj h
      rfl
    case h_13 => contradiction
    all_goals
      simp only [Option.map_eq_some_iff, Option.some.injEq] at h
      obtain ⟨i, -, rfl⟩ := h
      rfl
  · contradiction

theorem readStepRecord_inRange (bytes : List Byte) (r : StepRecord) (h : readStepRecord bytes = some r) :
    r.inRange = true := by
  unfold readStepRecord at h
  split at h
  · obtain ⟨next, hnext, h⟩ := Option.bind_eq_some_iff.1 h
    obtain ⟨onFail, hfail, h⟩ := Option.bind_eq_some_iff.1 h
    obtain ⟨k, hkind, h⟩ := Option.bind_eq_some_iff.1 h
    obtain rfl := Option.some.inj h
    simp [StepRecord.inRange, readNext_inRange _ _ _ hnext, readOnFail_inRange _ _ _ hfail,
      readStepKind_inRange _ _ _ hkind]
  · contradiction

/-! ### Route definitions -/

/-- Records of one size are the chunks of their bytes, whatever follows them. -/
theorem chunks_flatMap {α : Type} (size : Nat) (f : α → List Byte) (xs : List α) (rest : List Byte)
    (h : ∀ x ∈ xs, (f x).length = size) : chunks size xs.length (xs.flatMap f ++ rest) = xs.map f := by
  induction xs with
  | nil => rfl
  | cons x xs ih =>
    have hx := h x (by simp)
    simp only [List.length_cons, chunks, List.flatMap_cons, List.append_assoc, List.map_cons]
    rw [← hx, List.take_left, List.drop_left, hx, ih (fun y hy => h y (by simp [hy]))]

/-- A node number from its two bytes. -/
def nodeOf : List Byte → Nat
  | [a, b] => read16 a b
  | _ => 0

theorem readRouteDef_eq (inst term count s0 s1 : Byte) (nodes : List Byte) :
    readRouteDef (inst :: term :: count :: s0 :: s1 :: nodes) = (do
      let i ← readInst inst
      let t ← readTerminal term
      let ns := (chunks 2 count.toNat nodes).map nodeOf
      if 8 < count.toNat ∨ ns.any (fun n => 511 < n) ∨ ¬ ns.Nodup then none
      else if count = 0 then some none
      else some (some ⟨i, t, ns, BitVec.ofNat 16 (read16 s0 s1)⟩)) := rfl

theorem nodes_read (ns : List Nat) (rest : List Byte) (h : ∀ n ∈ ns, n < 512) :
    (chunks 2 ns.length (ns.flatMap le16 ++ rest)).map nodeOf = ns := by
  rw [chunks_flatMap 2 le16 ns rest (fun _ _ => rfl), List.map_map]
  refine (List.map_congr_left fun n hn => ?_).trans (List.map_id ns)
  exact read16_le16 n (Nat.lt_trans (h n hn) (by decide))

theorem RouteDef.inRange_iff (r : RouteDef) : r.inRange = true ↔
    (1 ≤ r.nodes.length ∧ r.nodes.length ≤ 8 ∧ r.nodes.Nodup) ∧ ∀ n ∈ r.nodes, n < 512 := by
  simp [RouteDef.inRange]

theorem flatMap_le16_length (ns : List Nat) : (ns.flatMap le16).length = 2 * ns.length := by
  induction ns with
  | nil => rfl
  | cons n ns ih => simp [le16, ih]; omega

theorem routeDefBytes_length (r : RouteDef) (h : r.inRange = true) : (routeDefBytes (some r)).length = 21 := by
  obtain ⟨⟨-, hmax, -⟩, -⟩ := r.inRange_iff.1 h
  simp only [routeDefBytes, padTo, List.length_append, flatMap_le16_length, List.length_replicate, u8, le16, List.length_cons,
    List.length_nil]
  omega

theorem readRouteDef_bytes (r : RouteDef) (h : r.inRange = true) :
    readRouteDef (routeDefBytes (some r)) = some (some r) := by
  obtain ⟨⟨hmin, hmax, hnodup⟩, hnodes⟩ := r.inRange_iff.1 h
  have hcount : (BitVec.ofNat 8 r.nodes.length).toNat = r.nodes.length := by
    rw [BitVec.toNat_ofNat]
    omega
  have hne : BitVec.ofNat 8 r.nodes.length ≠ 0 := fun e => by
    rw [e] at hcount
    simp at hcount
    omega
  have hany : (r.nodes.any fun n => decide (511 < n)) = false := by
    rw [List.any_eq_false]
    intro n hn
    have := hnodes n hn
    simp
    omega
  have hread := nodes_read r.nodes (List.replicate (16 - (r.nodes.flatMap le16).length) 0) hnodes
  have hb : routeDefBytes (some r) = BitVec.ofNat 8 r.inst :: BitVec.ofNat 8 (terminalCode r.terminal) ::
      BitVec.ofNat 8 r.nodes.length :: BitVec.ofNat 8 r.settle.toNat :: BitVec.ofNat 8 (r.settle.toNat / 256) ::
      (r.nodes.flatMap le16 ++ List.replicate (16 - (r.nodes.flatMap le16).length) 0) := rfl
  rw [hb, readRouteDef_eq, readInst_ofNat, readTerminal_code, hcount, hread, ofNat_read16_le16]
  simp only [Option.bind_eq_bind, Option.bind_some, hany, Bool.false_eq_true, hnodup, not_true_eq_false, or_self,
    Nat.not_lt.2 hmax, if_false, hne]

theorem readRouteDef_inRange (bytes : List Byte) (r : RouteDef) (h : readRouteDef bytes = some (some r)) :
    r.inRange = true := by
  unfold readRouteDef at h
  split at h
  · obtain ⟨i, -, h⟩ := Option.bind_eq_some_iff.1 h
    obtain ⟨t, -, h⟩ := Option.bind_eq_some_iff.1 h
    simp only at h
    split at h
    · contradiction
    · rename_i hok
      split at h
      · exact absurd (Option.some.inj h) (by simp)
      · rename_i hcount
        obtain rfl := Option.some.inj (Option.some.inj h)
        simp only [not_or, List.any_eq_true, not_exists, not_and, decide_eq_true_eq, not_not] at hok
        obtain ⟨hmax, hnodes, hnodup⟩ := hok
        have hpos : 0 < BitVec.toNat _ := Nat.pos_of_ne_zero fun e => hcount (BitVec.eq_of_toNat_eq e)
        rw [RouteDef.inRange_iff]
        refine ⟨⟨?_, ?_, hnodup⟩, fun n hn => ?_⟩
        · rw [List.length_map, chunks_length]
          exact hpos
        · rw [List.length_map, chunks_length]
          omega
        · have := hnodes n hn
          omega
  · contradiction

/-! ### Limit sets -/

theorem limitSetBytes_length (l : LimitSet) : (limitSetBytes (some l)).length = 18 := by cases l <;> rfl

theorem readLimitSet_bytes (l : LimitSet) (h : l.inRange = true) :
    readLimitSet (limitSetBytes (some l)) = some (some l) := by
  cases l with
  | abs low high guard unused =>
    simp only [LimitSet.inRange, decide_eq_true_eq] at h
    obtain ⟨hlow, horder, hhigh, hguard⟩ := h
    have hl := read32_le32 (low % 4294967296).toNat (by omega)
    have hh := read32_le32 (high % 4294967296).toNat (by omega)
    have hg := read32_le32 guard (by omega)
    simp [-BitVec.ofNat_toNat, limitSetBytes, readLimitSet, le32i, le32, le16, hl, hh, hg, ofNat_read16_le16,
      signed32_mod low hlow (by omega), signed32_mod high (by omega) hhigh]
    omega
  | rel reference below above guard unused =>
    simp only [LimitSet.inRange, decide_eq_true_eq] at h
    obtain ⟨hbelow, habove, hguard⟩ := h
    have hb := read16_le16 below (by omega)
    have ha := read16_le16 above (by omega)
    have hg := read32_le32 guard (by omega)
    simp [-BitVec.ofNat_toNat, limitSetBytes, readLimitSet, u8, le32, le16, hb, ha, hg, ofNat_read32_le32]
    omega

theorem readLimitSet_inRange (bytes : List Byte) (l : LimitSet) (h : readLimitSet bytes = some (some l)) :
    l.inRange = true := by
  unfold readLimitSet at h
  split at h
  · rename_i kind ref a0 a1 a2 a3 h0 h1 h2 h3 b0 b1 c0 c1 g0 g1 g2 g3
    simp only at h
    split at h
    · exact absurd (Option.some.inj h) (by simp)
    · split at h
      · contradiction
      · obtain rfl := Option.some.inj (Option.some.inj h)
        have hlow := signed32_range (read32 a0 a1 a2 a3)
        have hhigh := signed32_range (read32 h0 h1 h2 h3)
        simp only [LimitSet.inRange, decide_eq_true_eq]
        omega
    · obtain ⟨k, -, h⟩ := Option.bind_eq_some_iff.1 h
      split at h
      · contradiction
      · obtain rfl := Option.some.inj (Option.some.inj h)
        simp only [LimitSet.inRange, decide_eq_true_eq]
        omega
    · contradiction
  · contradiction

/-- Settles O56: the round trips of the three records and the ranges of what is read. -/
theorem recordsReadBackAsWritten : Obligations.RecordsReadBackAsWritten :=
  ⟨fun r h => ⟨stepRecordBytes_length r, readStepRecord_bytes r h⟩, readStepRecord_inRange,
    fun r h => ⟨routeDefBytes_length r h, readRouteDef_bytes r h⟩, fun bytes r _ h => readRouteDef_inRange bytes r h,
    fun l h => ⟨limitSetBytes_length l, readLimitSet_bytes l h⟩, readLimitSet_inRange⟩

end Sys2Proof.Machine
end

section
/-! Site settings, variables and flags (O16), the start of a run (O17), MANUAL and DIRECT (O18). -/

namespace Sys2Proof.Machine

variable (s : State)

/-- A request without a next step to take settles nothing. -/
theorem settle_send (f : Frame) (h : s.agenda = []) : settle (send f s) = send f s := settle_nil _ h

/-! ### SITE_SET, VAR_SET, VAR_READ -/

theorem siteSet_answers (tag e0 e1 on l0 l1 : Byte) (n : SiteId) (he : read16 e0 e1 ≤ 2047) (hon : on.toNat ≤ 1) :
    Answers (.siteSet tag [BitVec.ofNat 8 n, e0, e1, on, l0, l1]) ⟨0x18, tag, [BitVec.ofNat 8 n, e0, e1, on, l0, l1]⟩
      (fun _ => True) fun s => send ⟨0x58, tag, [0x00]⟩ (s.setSite n { s.site n with
        entryStep := read16 e0 e1, startEnable := on = 1, watchdogLimit := l1 ++ l0 }) := by
  refine Answers.of id _ (fun s => rfl) fun s _ => ?_
  simp [withLength, readFlag_some on hon, Nat.not_lt.2 he, setSettings, ofNat_read16, reply_eq, Status.code]

theorem siteSet_refuses (tag site e0 e1 on l0 l1 : Byte) (h : 7 < site.toNat ∨ 2047 < read16 e0 e1 ∨ 1 < on.toNat) :
    Refuses (.siteSet tag [site, e0, e1, on, l0, l1]) ⟨0x18, tag, [site, e0, e1, on, l0, l1]⟩ (fun _ => True) 0x03 := by
  refine Answers.of id _ (fun s => rfl) fun s _ => ?_
  simp only [withLength, id]
  rcases h with h | h | h
  · simp [readSite_none site h, reply_eq, Status.code]
  · cases readSite site <;> cases readFlag on <;> simp [h, reply_eq, Status.code]
  · simp [readFlag_none on h, reply_eq, Status.code]

/-- A request about one site is handled at the site its byte names. -/
theorem siteRequest_answers {c : Instr} {kind tag : Byte} {act : SiteId → State → State} {n : SiteId}
    {guard : State → Prop} {effect : State → State}
    (hc : ∀ s, exec c s = .next (siteRequest kind tag [BitVec.ofNat 8 n] act s))
    (hh : ∀ s, guard s → act n s = effect s) : Answers c ⟨kind, tag, [BitVec.ofNat 8 n]⟩ guard effect := by
  refine Answers.of id _ hc fun s hg => ?_
  simpa [withLength] using hh s hg

/-- A request about a site above 7 is refused. -/
theorem siteRequest_refuses {c : Instr} {kind tag site : Byte} {act : SiteId → State → State} {guard : State → Prop}
    (hc : ∀ s, exec c s = .next (siteRequest kind tag [site] act s)) (h : 7 < site.toNat) :
    Refuses c ⟨kind, tag, [site]⟩ guard 0x03 := by
  refine Answers.of id _ hc fun s _ => ?_
  simp [withLength, readSite_none site h, reply_eq, Status.code]

/-- An invalid variable is written as 0 (R24). -/
theorem writtenVariable_flag (v : Int) (valid : Byte) :
    writtenVariable v (decide (valid = 1#8)) = if valid = 1#8 then ⟨v, true⟩ else ⟨0, false⟩ := by
  split <;> rename_i h <;> simp only [h, writtenVariable] <;> rfl

theorem varSet_answers (tag v0 v1 v2 v3 valid : Byte) (n : SiteId) (k : Fin 8)
    (hv : (signed32 (read32 v0 v1 v2 v3)).natAbs ≤ 134217727) (hvalid : valid.toNat ≤ 1) :
    Answers (.varSet tag [BitVec.ofNat 8 n, BitVec.ofNat 8 k, v0, v1, v2, v3, valid])
      ⟨0x1E, tag, [BitVec.ofNat 8 n, BitVec.ofNat 8 k, v0, v1, v2, v3, valid]⟩
      (fun s => (s.site n).state ≠ .run ∧ (s.site n).state ≠ .teardown)
      fun s => send ⟨0x5E, tag, [0x00]⟩ (s.setSite n { s.site n with
        vars := (s.site n).vars.set k (if valid = 1 then ⟨signed32 (read32 v0 v1 v2 v3), true⟩ else ⟨0, false⟩) }) := by
  refine Answers.of id _ (fun s => rfl) fun s ⟨hr, ht⟩ => ?_
  simp [withLength, readFlag_some valid hvalid, (variableRange_iff _).2 hv, hr, ht, writtenVariable_flag, reply_eq,
    Status.code]

theorem varSet_refuses_state (tag v0 v1 v2 v3 valid : Byte) (n : SiteId) (k : Fin 8)
    (hv : (signed32 (read32 v0 v1 v2 v3)).natAbs ≤ 134217727) (hvalid : valid.toNat ≤ 1) :
    Refuses (.varSet tag [BitVec.ofNat 8 n, BitVec.ofNat 8 k, v0, v1, v2, v3, valid])
      ⟨0x1E, tag, [BitVec.ofNat 8 n, BitVec.ofNat 8 k, v0, v1, v2, v3, valid]⟩
      (fun s => (s.site n).state = .run ∨ (s.site n).state = .teardown) 0x04 := by
  refine Answers.of id _ (fun s => rfl) fun s h => ?_
  simp [withLength, readFlag_some valid hvalid, (variableRange_iff _).2 hv, h, reply_eq, Status.code]

theorem varSet_refuses (tag site index v0 v1 v2 v3 valid : Byte)
    (h : 7 < site.toNat ∨ 7 < index.toNat ∨ 134217727 < (signed32 (read32 v0 v1 v2 v3)).natAbs ∨ 1 < valid.toNat) :
    Refuses (.varSet tag [site, index, v0, v1, v2, v3, valid]) ⟨0x1E, tag, [site, index, v0, v1, v2, v3, valid]⟩
      (fun _ => True) 0x03 := by
  refine Answers.of id _ (fun s => rfl) fun s _ => ?_
  simp only [withLength, id]
  rcases h with h | h | h | h
  · simp [readSite_none site h, reply_eq, Status.code]
  · simp [readIndex8_none index h, reply_eq, Status.code]
  · have hv : variableRange (signed32 (read32 v0 v1 v2 v3)) = false := by
      rw [Bool.eq_false_iff, ne_eq, variableRange_iff]
      exact Nat.not_le.2 h
    cases readSite site <;> cases readIndex8 index <;> cases readFlag valid <;> simp [hv, reply_eq, Status.code]
  · simp [readFlag_none valid h, reply_eq, Status.code]

/-! ### Flags -/

theorem retestFlags_other (n : SiteId) (h : (s.site n).phase ≠ .wait .flag) : retestFlags n s = s := by
  simp only [retestFlags]
  split
  · contradiction
  · rfl

/-- A WAIT_FLAG whose mask is satisfied ends as done, its matched flags cleared; another waits on (R18). -/
theorem retestFlags_waiting (n : SiteId) (r : StepRecord) (mask : Byte) (mode : FlagMode) (t : BitVec 16)
    (hr : r.kind = .waitFlag mask mode t) (hp : (s.site n).phase = .wait .flag) (ht : (s.site n).taking = some r) :
    retestFlags n s = if maskSatisfied mode mask (s.site n).inFlags then
      finishStep n false none (s.setSite n { s.site n with
        phase := .step, inFlags := (s.site n).inFlags &&& ~~~mask }) else s := by
  obtain ⟨tag, next, onFail, kind⟩ := r
  obtain rfl : kind = _ := hr
  simp [retestFlags, hp, ht, flagsMatched, resumeStep, clearMatched]

theorem flagRaise_answers {tag m : Byte} {n : SiteId} {guard : State → Prop} {effect : State → State}
    (hh : ∀ s, guard s → settle (retestFlags n (send ⟨0x60, tag, [0x00]⟩
      (s.setSite n { s.site n with inFlags := (s.site n).inFlags ||| m }))) = effect s) :
    Answers (.flagRaise tag [BitVec.ofNat 8 n, m]) ⟨0x20, tag, [BitVec.ofNat 8 n, m]⟩ guard effect := by
  refine Answers.of settle _ (fun s => rfl) fun s hg => ?_
  simpa [withLength, reply_eq, Status.code] using hh s hg

theorem flagRaise_refuses (tag site m : Byte) (h : 7 < site.toNat) :
    Refuses (.flagRaise tag [site, m]) ⟨0x20, tag, [site, m]⟩ (fun s => s.agenda = []) 0x03 := by
  refine Answers.of settle _ (fun s => rfl) fun s ha => ?_
  simpa [withLength, readSite_none site h, reply_eq, Status.code] using settle_send s _ ha

theorem flagClear_answers (tag o m : Byte) (n : SiteId) :
    Answers (.flagClear tag [BitVec.ofNat 8 n, o, m]) ⟨0x21, tag, [BitVec.ofNat 8 n, o, m]⟩ (fun _ => True) fun s =>
      send ⟨0x61, tag, [0x00]⟩ (s.setSite n { s.site n with
        outFlags := (s.site n).outFlags &&& ~~~o, inFlags := (s.site n).inFlags &&& ~~~m }) := by
  refine Answers.of id _ (fun s => rfl) fun s _ => ?_
  simp [withLength, reply_eq, Status.code]

theorem flagClear_refuses (tag site o m : Byte) (h : 7 < site.toNat) :
    Refuses (.flagClear tag [site, o, m]) ⟨0x21, tag, [site, o, m]⟩ (fun _ => True) 0x03 := by
  refine Answers.of id _ (fun s => rfl) fun s _ => ?_
  simp [withLength, readSite_none site h, reply_eq, Status.code]

/-- Settles O16, request by request. -/
theorem siteSettingsVariablesAndFlagsAreSet : Obligations.SiteSettingsVariablesAndFlagsAreSet := by
  refine ⟨⟨siteSet_answers, siteSet_refuses⟩, ⟨?_, varSet_refuses, ?_, ?_⟩, ⟨?_, ?_, flagClear_answers, ?_⟩⟩
  · intro tag v0 v1 v2 v3 valid n k v body hhigh hlow hvalid
    have hv : v.natAbs ≤ 134217727 := by omega
    exact ⟨varSet_answers tag v0 v1 v2 v3 valid n k hv hvalid, varSet_refuses_state tag v0 v1 v2 v3 valid n k hv hvalid⟩
  · exact fun tag n => siteRequest_answers (fun s => rfl) fun s _ => rfl
  · exact fun tag site h => siteRequest_refuses (fun s => rfl) h
  · refine fun tag m n => flagRaise_answers fun s ⟨ha, hp⟩ => ?_
    rw [retestFlags_other _ n (by simpa using hp), settle_send (s.setSite n _) _ ha]
  · intro tag m n r mask mode t hr
    refine flagRaise_answers fun s ⟨ha, hp, ht⟩ => ?_
    simp only
    rw [retestFlags_waiting _ n r mask mode t hr (by simpa using hp) (by simpa using ht), send_site,
      State.setSite_site_same, apply_ite settle, settle_send (s.setSite n _) _ ha]
  · exact fun tag site o m h => ⟨flagRaise_refuses tag site m h, flagClear_refuses tag site o m h⟩

/-! ### START -/

theorem readEntry_some (n : SiteId) (e0 e1 : Byte) (h : read16 e0 e1 < 2048 ∨ read16 e0 e1 = 0xFFFF) :
    readEntry s n e0 e1 = some (if read16 e0 e1 = 0xFFFF then (s.site n).entryStep else read16 e0 e1) := by
  unfold readEntry
  split
  · rfl
  · rename_i hne
    rw [if_pos (h.resolve_right hne)]

theorem readEntry_none (n : SiteId) (e0 e1 : Byte) (h : 2048 ≤ read16 e0 e1) (hne : read16 e0 e1 ≠ 0xFFFF) :
    readEntry s n e0 e1 = none := by
  rw [readEntry, if_neg hne, if_neg (Nat.not_lt.2 h)]

/-- A START with fields in range is judged by `startSite` (R26). -/
theorem start_answers {tag e0 e1 clear : Byte} {n : SiteId} {guard : State → Prop} {effect : State → State}
    (he : read16 e0 e1 < 2048 ∨ read16 e0 e1 = 0xFFFF) (hc : clear.toNat ≤ 1)
    (hh : ∀ s, guard s → settle (startSite tag n (if read16 e0 e1 = 0xFFFF then (s.site n).entryStep else read16 e0 e1)
      (decide (clear = 1)) s) = effect s) :
    Answers (.start tag [BitVec.ofNat 8 n, e0, e1, clear]) ⟨0x19, tag, [BitVec.ofNat 8 n, e0, e1, clear]⟩ guard effect := by
  refine Answers.of settle _ (fun s => rfl) fun s hg => ?_
  simpa [withLength, readFlag_some clear hc, readEntry_some s n e0 e1 he] using hh s hg

theorem startSite_safe (tag : Byte) (n : SiteId) (slot : Nat) (clear : Bool) (h : s.safe ≠ ⟨false, false, false⟩) :
    startSite tag n slot clear s = send ⟨0x59, tag, [0x07]⟩ s := by
  rw [startSite, if_pos ((safe_holds_iff _).2 h)]
  rfl

theorem startSite_state (tag : Byte) (n : SiteId) (slot : Nat) (clear : Bool) (hs : s.safe = ⟨false, false, false⟩)
    (h : (s.site n).state ≠ .idle) : startSite tag n slot clear s = send ⟨0x59, tag, [0x04]⟩ s := by
  simp [startSite, hs, SafeSet.holds, h, reply_eq, Status.code]

theorem startSite_noRoom (tag : Byte) (n : SiteId) (slot : Nat) (clear : Bool) (hs : s.safe = ⟨false, false, false⟩)
    (h : (s.site n).state = .idle) (hr : s.free ≤ s.runCount) :
    startSite tag n slot clear s = send ⟨0x59, tag, [0x06]⟩ s := by
  simp [startSite, hs, SafeSet.holds, h, hr, reply_eq, Status.code]

/-- The begin of a run: the site's record, and its entry step selected (R27). -/
theorem beginRun_eq (n : SiteId) (slot : Nat) (clear : Bool) :
    beginRun n slot clear s = { s.setSite n ((s.site n).beginRun s.time clear) with agenda := s.agenda ++ [(n, .take slot)] } :=
  rfl

theorem beginRun_site (n : SiteId) (slot : Nat) (clear : Bool) :
    (beginRun n slot clear s).site n = (s.site n).beginRun s.time clear := State.setSite_site_same s n _

theorem startSite_begins (tag : Byte) (n : SiteId) (slot : Nat) (clear : Bool) (hs : s.safe = ⟨false, false, false⟩)
    (h : (s.site n).state = .idle) (hr : s.runCount < s.free) : startSite tag n slot clear s =
      send ⟨0x59, tag, [0x00] ++ le16 ((s.site n).beginRun s.time clear).runNumber.toNat⟩ (beginRun n slot clear s) := by
  simp [startSite, hs, SafeSet.holds, h, Nat.not_le.2 hr, beginRun_site, reply_eq, Status.code]

theorem start_refuses_fields (tag site e0 e1 clear : Byte)
    (h : 7 < site.toNat ∨ (2048 ≤ read16 e0 e1 ∧ read16 e0 e1 ≠ 0xFFFF) ∨ 1 < clear.toNat) :
    Refuses (.start tag [site, e0, e1, clear]) ⟨0x19, tag, [site, e0, e1, clear]⟩ (fun s => s.agenda = []) 0x03 := by
  refine Answers.of settle _ (fun s => rfl) fun s ha => ?_
  refine Eq.trans (congrArg settle ?_) (settle_send s _ ha)
  simp only [withLength]
  rcases h with h | ⟨h, hne⟩ | h
  · simp [readSite_none site h, reply_eq, Status.code]
  · cases readSite site <;> cases readFlag clear <;> simp [readEntry_none s _ e0 e1 h hne, reply_eq, Status.code]
  · simp [readFlag_none clear h, reply_eq, Status.code]

/-- Settles O17: the run that `startSite` begins, and its refusals in their order. -/
theorem startBeginsARun : Obligations.StartBeginsARun := by
  refine ⟨?_, ?_, start_refuses_fields⟩
  · intro tag e0 e1 clear n he hc
    refine start_answers he hc fun s ⟨hs, hi, hr⟩ => ?_
    refine congrArg settle ((startSite_begins s tag n _ _ hs hi hr).trans ?_)
    rw [beginRun_eq, Site.beginRun]
    simp only [decide_eq_true_eq, Variable.cleared]
  · intro tag e0 e1 clear n he hc
    refine ⟨start_answers he hc fun s ⟨ha, hs⟩ => ?_, start_answers he hc fun s ⟨ha, hs, hi⟩ => ?_,
      start_answers he hc fun s ⟨ha, hs, hi, hr⟩ => ?_⟩
    · exact (congrArg settle (startSite_safe s tag n _ _ hs)).trans (settle_send s _ ha)
    · exact (congrArg settle (startSite_state s tag n _ _ hs hi)).trans (settle_send s _ ha)
    · exact (congrArg settle (startSite_noRoom s tag n _ _ hs hi hr)).trans (settle_send s _ ha)

/-! ### MANUAL and DIRECT -/

theorem manual_eq (tag site : Byte) : exec (.manual tag [site]) s = .next (siteRequest 0x1B tag [site] (fun n s =>
    if s.safe.holds then reply 0x1B tag .safe [] s
    else if (s.site n).state ≠ .idle then reply 0x1B tag .state [] s
    else reply 0x1B tag .ok [] (s.setSite n (s.site n).toManual)) s) := rfl

/-- A DIRECT with a record in range is judged by `directStep` (R30). -/
theorem direct_answers {tag : Byte} {n : SiteId} {r : StepRecord} {guard : State → Prop} {effect : State → State}
    (hr : r.inRange = true) (hh : ∀ s, guard s → settle (directStep tag n r s) = effect s) :
    Answers (.direct tag (BitVec.ofNat 8 n :: stepRecordBytes r)) ⟨0x1C, tag, BitVec.ofNat 8 n :: stepRecordBytes r⟩
      guard effect := by
  refine Answers.of settle _ (fun s => rfl) fun s hg => ?_
  simpa [withLength, stepRecordBytes_length, readStepRecord_bytes r hr] using hh s hg

theorem directStep_safe (tag : Byte) (n : SiteId) (r : StepRecord) (h : s.safe ≠ ⟨false, false, false⟩) :
    directStep tag n r s = send ⟨0x5C, tag, [0x07]⟩ s := by
  rw [directStep, if_pos ((safe_holds_iff _).2 h)]
  rfl

theorem directStep_state (tag : Byte) (n : SiteId) (r : StepRecord) (hs : s.safe = ⟨false, false, false⟩)
    (h : (s.site n).state ≠ .manual) : directStep tag n r s = send ⟨0x5C, tag, [0x04]⟩ s := by
  simp [directStep, hs, SafeSet.holds, h, reply_eq, Status.code]

theorem directStep_busy (tag : Byte) (n : SiteId) (r : StepRecord) (hs : s.safe = ⟨false, false, false⟩)
    (h : (s.site n).state = .manual) (hp : (s.site n).phase ≠ .noStep) :
    directStep tag n r s = send ⟨0x5C, tag, [0x05]⟩ s := by
  simp [directStep, hs, SafeSet.holds, h, (Site.inStep_iff _).2 hp, reply_eq, Status.code]

theorem directStep_takes (tag : Byte) (n : SiteId) (r : StepRecord) (hs : s.safe = ⟨false, false, false⟩)
    (h : (s.site n).state = .manual) (hp : (s.site n).phase = .noStep) :
    directStep tag n r s = performStep n r (send ⟨0x5C, tag, [0x00]⟩
      (s.setSite n { s.site n with current := some .direct, phase := .step, taking := some r })) := by
  simp [directStep, hs, SafeSet.holds, h, Site.inStep, hp, reply_eq, Status.code]

theorem direct_refuses_fields (tag site : Byte) (record : List Byte) (hl : record.length = 20)
    (h : 7 < site.toNat ∨ readStepRecord record = none) :
    Refuses (.direct tag (site :: record)) ⟨0x1C, tag, site :: record⟩ (fun s => s.agenda = []) 0x03 := by
  refine Answers.of settle _ (fun s => rfl) fun s ha => ?_
  refine Eq.trans (congrArg settle ?_) (settle_send s _ ha)
  simp only [withLength, List.length_cons, hl]
  rcases h with h | h
  · simp [readSite_none site h, reply_eq, Status.code]
  · cases readSite site <;> simp [h, reply_eq, Status.code]

/-- Settles O18: MANUAL from its handler, DIRECT from `directStep`. -/
theorem manualAndDirectStepASite : Obligations.ManualAndDirectStepASite := by
  refine ⟨⟨?_, ?_⟩, ?_, direct_refuses_fields⟩
  · intro tag n c f
    refine ⟨siteRequest_answers (manual_eq · tag _) fun s ⟨hs, hi⟩ => ?_, siteRequest_answers (manual_eq · tag _) fun s hs => ?_,
      siteRequest_answers (manual_eq · tag _) fun s ⟨hs, hi⟩ => ?_⟩
    · simp [hs, SafeSet.holds, hi, reply_eq, Status.code, Site.toManual]
    · rw [if_pos ((safe_holds_iff _).2 hs)]
      rfl
    · rw [if_neg (by simp [hs, SafeSet.holds]), if_pos hi]
      rfl
  · exact fun tag site h => siteRequest_refuses (manual_eq · tag site) h
  · intro tag n r hr c f
    refine ⟨direct_answers hr fun s ⟨hs, hm, hp⟩ => ?_, direct_answers hr fun s ⟨ha, hs⟩ => ?_,
      direct_answers hr fun s ⟨ha, hs, hm⟩ => ?_, direct_answers hr fun s ⟨ha, hs, hm, hp⟩ => ?_⟩
    · rw [directStep_takes s tag n r hs hm hp]
    · exact (congrArg settle (directStep_safe s tag n r hs)).trans (settle_send s _ ha)
    · exact (congrArg settle (directStep_state s tag n r hs hm)).trans (settle_send s _ ha)
    · exact (congrArg settle (directStep_busy s tag n r hs hm hp)).trans (settle_send s _ ha)

end Sys2Proof.Machine
end

section
/-! The steps a site takes by itself, and the timers of a step (O15; R16 to R20, R25, R32). -/

namespace Sys2Proof.Machine

variable (s : State)

/-! ### Time and expiries -/

/-- Time that passes to an expiry has run its timer (R32). -/
theorem passTo_runs (t : Timer) (h : t.duration < 4294967296) : t.duration ≤ ((s.passTo t).time - t.start).toNat := by
  cases he : t.expired s.time with
  | true =>
    rw [passTo_expired s t he]
    exact of_decide_eq_true he
  | false =>
    rw [passTo_running s t he]
    simp only [Timer.expiry]
    bv_omega

theorem mem_pollTimer (x : Timer) :
    x ∈ (pollTimer s).toList ↔ ∃ length polls, s.fixture.transfer = some (.poll length polls x) := by
  rw [Option.mem_toList, pollTimer]
  split <;> rename_i h <;> simp_all

/-- An expiry is reached when its timer has run, or as the first of the timers when nothing is due (log entry 2). -/
theorem reaches_iff (t : Timer) : s.reaches t = true ↔ t.duration ≤ (s.time - t.start).toNat ∨
    (s.agenda = [] ∧ dueEvent s = none ∧
      (∀ x ∈ s.running, t.duration - (s.time - t.start).toNat ≤ x.1.duration - (s.time - x.1.start).toNat) ∧
      ∀ length polls x, s.fixture.transfer = some (.poll length polls x) →
        t.duration - (s.time - t.start).toNat ≤ x.duration - (s.time - x.start).toNat) := by
  have hall : (∀ x ∈ s.timers, t.remaining s.time ≤ x.remaining s.time) ↔
      (∀ x ∈ s.running, t.remaining s.time ≤ x.1.remaining s.time) ∧
        ∀ length polls x, s.fixture.transfer = some (.poll length polls x) → t.remaining s.time ≤ x.remaining s.time := by
    simp only [State.timers, List.mem_append, List.mem_map, mem_pollTimer]
    constructor
    · exact fun h => ⟨fun x hx => h x.1 (.inl ⟨x, hx, rfl⟩), fun length polls x hx => h x (.inr ⟨length, polls, hx⟩)⟩
    · rintro ⟨hrun, hpoll⟩ x (⟨y, hy, rfl⟩ | ⟨length, polls, hx⟩)
      · exact hrun y hy
      · exact hpoll length polls x hx
  simp only [State.reaches, Bool.or_eq_true, Bool.and_eq_true, List.isEmpty_iff, Option.isNone_iff_eq_none, List.all_eq_true,
    decide_eq_true_eq, hall, Timer.expired, and_assoc]
  rfl

/-! ### The timers that run -/

theorem mem_timersOf {α : Type} (xs : List α) (timer : α → Option Timer) (cmd : α → Instr) (t : Timer) (c : Instr) :
    (t, c) ∈ timersOf xs timer cmd ↔ ∃ x ∈ xs, timer x = some t ∧ cmd x = c := by
  simp [timersOf, List.mem_filterMap]

/-- The event of a line is its change. -/
theorem lineCommand_cases (l : LineId) : (∃ n, lineCommand s l = .seatChange n) ∨ (∃ n, lineCommand s l = .startChange n) ∨
    lineCommand s l = .lidClose ∨ lineCommand s l = .lidOpen := by
  unfold lineCommand
  split
  · exact .inl ⟨_, rfl⟩
  · exact .inr (.inl ⟨_, rfl⟩)
  · split
    · exact .inr (.inr (.inl rfl))
    · exact .inr (.inr (.inr rfl))

/-- The event of a line is none of a step's timers. -/
theorem lineCommand_ne (l : LineId) (n : SiteId) : lineCommand s l ≠ .stepWatchdogExpiry n ∧
    lineCommand s l ≠ .delayExpiry n ∧ lineCommand s l ≠ .waitFlagTimeout n := by
  rcases lineCommand_cases s l with ⟨m, h⟩ | ⟨m, h⟩ | h | h <;> rw [h] <;> exact ⟨nofun, nofun, nofun⟩

theorem mem_running_watchdog (t : Timer) (n : SiteId) :
    (t, .stepWatchdogExpiry n) ∈ s.running ↔ (s.site n).state = .run ∧ (s.site n).watchdog = some t := by
  simp [State.running, mem_timersOf, (lineCommand_ne s _ n).1, watchdogTimer, mem_allSites]

theorem mem_running_delay (t : Timer) (n : SiteId) :
    (t, .delayExpiry n) ∈ s.running ↔ (s.site n).phase = .wait .delay ∧ (s.site n).stepTimer = some t := by
  simp [State.running, mem_timersOf, (lineCommand_ne s _ n).2.1, stepTimerIn, mem_allSites]

theorem mem_running_flag (t : Timer) (n : SiteId) :
    (t, .waitFlagTimeout n) ∈ s.running ↔ (s.site n).phase = .wait .flag ∧ (s.site n).stepTimer = some t := by
  simp [State.running, mem_timersOf, (lineCommand_ne s _ n).2.2, stepTimerIn, mem_allSites]

/-- An expiry behind a timer that runs is not reached. -/
theorem reaches_behind_running (t x : Timer) (c : Instr) (hx : (x, c) ∈ s.running)
    (h : x.duration - (s.time - x.start).toNat < t.duration - (s.time - t.start).toNat) : s.reaches t = false := by
  refine reaches_behind s t x (mem_timers_running s (x, c) hx) ?_ h
  rw [Timer.expired, Timer.elapsed, decide_eq_false_iff_not]
  omega

/-! ### The expiries of a step -/

theorem delayExpiry_waiting (n : SiteId) (t : Timer) (hp : (s.site n).phase = .wait .delay)
    (ht : (s.site n).stepTimer = some t) :
    exec (.delayExpiry n) s = .next (whenRun t (fun s => settle (finishStep n false none s)) s) := by
  show execDelayExpiry n s = _
  simp only [execDelayExpiry, hp, ht]

theorem delayExpiry_none (n : SiteId) (h : (s.site n).phase ≠ .wait .delay) : exec (.delayExpiry n) s = .next s := by
  show execDelayExpiry n s = _
  unfold execDelayExpiry
  split
  · contradiction
  · rfl

theorem waitFlagTimeout_waiting (n : SiteId) (t : Timer) (hp : (s.site n).phase = .wait .flag)
    (ht : (s.site n).stepTimer = some t) :
    exec (.waitFlagTimeout n) s = .next (whenRun t (fun s => settle (finishStep n true none s)) s) := by
  show execWaitFlagTimeout n s = _
  simp only [execWaitFlagTimeout, hp, ht]

theorem waitFlagTimeout_none (n : SiteId) (h : (s.site n).phase ≠ .wait .flag ∨ (s.site n).stepTimer = none) :
    exec (.waitFlagTimeout n) s = .next s := by
  show execWaitFlagTimeout n s = _
  unfold execWaitFlagTimeout
  split
  · simp_all
  · rfl

theorem stepWatchdogExpiry_running (n : SiteId) (t : Timer) (hs : (s.site n).state = .run)
    (ht : (s.site n).watchdog = some t) : exec (.stepWatchdogExpiry n) s =
      .next (whenRun t (fun s => settle (enterTeardown n .stepTimeout none (countWatchdog (.site n) s))) s) := by
  show execStepWatchdogExpiry n s = _
  simp only [execStepWatchdogExpiry, hs, ht]

theorem stepWatchdogExpiry_none (n : SiteId) (h : (s.site n).state ≠ .run ∨ (s.site n).watchdog = none) :
    exec (.stepWatchdogExpiry n) s = .next s := by
  show execStepWatchdogExpiry n s = _
  unfold execStepWatchdogExpiry
  split
  · simp_all
  · rfl

/-- A DELAY whose expiry is not reached waits on. -/
theorem delayExpiry_behind (n : SiteId) (t : Timer) (ht : (s.site n).stepTimer = some t) (h : s.reaches t = false) :
    exec (.delayExpiry n) s = .next s := by
  by_cases hp : (s.site n).phase = .wait .delay
  · rw [delayExpiry_waiting s n t hp ht, whenRun_behind s t _ h]
  · exact delayExpiry_none s n hp

theorem waitFlagTimeout_behind (n : SiteId) (t : Timer) (ht : (s.site n).stepTimer = some t) (h : s.reaches t = false) :
    exec (.waitFlagTimeout n) s = .next s := by
  by_cases hp : (s.site n).phase = .wait .flag
  · rw [waitFlagTimeout_waiting s n t hp ht, whenRun_behind s t _ h]
  · exact waitFlagTimeout_none s n (.inl hp)

theorem stepWatchdogExpiry_behind (n : SiteId) (t : Timer) (ht : (s.site n).watchdog = some t)
    (h : s.reaches t = false) : exec (.stepWatchdogExpiry n) s = .next s := by
  by_cases hs : (s.site n).state = .run
  · rw [stepWatchdogExpiry_running s n t hs ht, whenRun_behind s t _ h]
  · exact stepWatchdogExpiry_none s n (.inl hs)

/-! ### The steps -/

theorem performStep_delay (n : SiteId) (r : StepRecord) (d : BitVec 24) (h : r.kind = .delay d) (hd : d ≠ 0) :
    performStep n r s = s.setSite n { s.site n with phase := .wait .delay, stepTimer := some ⟨s.time, d.toNat⟩ } := by
  simp only [performStep, h, delayStep, if_neg hd, waitFor, State.setSite_setSite, State.setSite_site_same,
    State.setSite_time]

theorem performStep_signal (n : SiteId) (r : StepRecord) (m : Byte) (h : r.kind = .signal m) :
    performStep n r s = finishStep n false none
      (if (s.site n).outFlags ||| m = (s.site n).outFlags then s
      else notice 0x83 ([BitVec.ofNat 8 n, (s.site n).outFlags ||| m] ++ le32 s.time.toNat)
        (s.setSite n { s.site n with outFlags := (s.site n).outFlags ||| m })) := by
  simp only [performStep, h, signalStep, apply_ite (finishStep n false none), flagNotice, State.setSite_site_same]
  rfl

theorem maskSatisfied_iff (mode : FlagMode) (m flags : Byte) : maskSatisfied mode m flags = true ↔
    (mode = .any ∧ flags &&& m ≠ 0) ∨ (mode = .all ∧ flags &&& m = m) := by
  cases mode <;> simp [maskSatisfied]

theorem performStep_waitFlag (n : SiteId) (r : StepRecord) (m : Byte) (mode : FlagMode) (t : BitVec 16)
    (h : r.kind = .waitFlag m mode t) : performStep n r s =
      if (mode = .any ∧ (s.site n).inFlags &&& m ≠ 0) ∨ (mode = .all ∧ (s.site n).inFlags &&& m = m) then
        finishStep n false none (s.setSite n { s.site n with inFlags := (s.site n).inFlags &&& ~~~m })
      else s.setSite n { s.site n with
        phase := .wait .flag, stepTimer := if t.toNat = 0 then none else some ⟨s.time, t.toNat * 1000⟩ } := by
  simp only [performStep, h, waitFlagStep, maskSatisfied_iff, flagsMatched, clearMatched, waitFor, State.setSite_setSite,
    State.setSite_site_same, limitTimer, State.setSite_time]

/-- Settles O15, from the steps' equations, the expiries and the timers that run. -/
theorem siteStepsRunAndTimeOut : Obligations.SiteStepsRunAndTimeOut := by
  refine ⟨⟨?_, fun n r d s => performStep_delay s n r d, fun n r m s => performStep_signal s n r m,
    fun n r m mode t s => performStep_waitFlag s n r m mode t⟩, ⟨?_, ?_, ?_, ?_,
    fun n s h => delayExpiry_none s n h, fun n s h => waitFlagTimeout_none s n h,
    fun n s h => stepWatchdogExpiry_none s n h, fun t s h => passTo_runs s t h⟩, fun t s => reaches_iff s t, ?_, ?_⟩
  · rintro n r s (h | h) <;> simp [performStep, h, delayStep]
  · exact fun n t s hp ht => ⟨fun h => by rw [delayExpiry_waiting s n t hp ht, whenRun_reached s t _ h],
      delayExpiry_behind s n t ht⟩
  · exact fun n t s hp ht => ⟨fun h => by rw [waitFlagTimeout_waiting s n t hp ht, whenRun_reached s t _ h],
      waitFlagTimeout_behind s n t ht⟩
  · exact fun n t s _ ht h => stepWatchdogExpiry_behind s n t ht h
  · intro n t s hs ht h
    rw [stepWatchdogExpiry_running s n t hs ht, whenRun_reached s t _ h]
    rfl
  · exact fun t s => ⟨mem_running_watchdog s t, mem_running_delay s t, mem_running_flag s t⟩
  · intro n t w s hs hw ht
    refine ⟨fun h => ?_, fun hp h => ?_⟩
    · have hb := reaches_behind_running s t w _ ((mem_running_watchdog s w n).2 ⟨hs, hw⟩) h
      exact ⟨delayExpiry_behind s n t ht hb, waitFlagTimeout_behind s n t ht hb⟩
    · exact stepWatchdogExpiry_behind s n w hw
        (reaches_behind_running s w t _ ((mem_running_flag s t n).2 ⟨hp, ht⟩) h)

end Sys2Proof.Machine
end

section
/-! The entry into TEARDOWN, STOP, and the orders of the safety controller (O20; R5, R8, R108, R178, R179, R188). -/

namespace Sys2Proof.Machine

variable (s : State)

/-! ### The entry -/

theorem teardownEntry_run (n : SiteId) (cause : Cause) (err : Option StepError) (h : (s.site n).state = .run) :
    teardownEntry n cause err s = s.setSite n { s.site n with
      state := .teardown, origin := some .run, cause := some cause, errorCode := err, teardownStep := (s.site n).current,
      hot := false, phase := .noStep, watchdog := none, outstanding := 0, teardownPhase := some .stop } := by
  rw [teardownEntry_works s n cause err ((State.works_iff s n).2 (.inl h)) (by simp [h])]
  simp only [h, if_true]

theorem teardownEntry_manual_rest (n : SiteId) (cause : Cause) (err : Option StepError)
    (h : (s.site n).state = .manual) (hp : (s.site n).phase = .noStep ∨ (s.site n).taking = none) :
    teardownEntry n cause err s = s.setSite n { s.site n with
      state := .teardown, origin := some .manual, cause := some cause, errorCode := err,
      teardownStep := (s.site n).current, hot := false, phase := .noStep, watchdog := none, outstanding := 0,
      teardownPhase := some .stop } := by
  simp only [teardownEntry, (State.works_iff s n).2 (.inr h), if_true]
  rcases hp with hp | ht
  · split
    · rw [if_neg (by simp [Site.inStep, hp])]
      simp [h]
    · simp [h]
  · simp [ht, h]

/-- A DIRECT step in progress is reported ABORTED (R31). -/
theorem teardownEntry_manual_step (n : SiteId) (cause : Cause) (err : Option StepError) (r : StepRecord)
    (h : (s.site n).state = .manual) (hp : (s.site n).phase ≠ .noStep) (ht : (s.site n).taking = some r) :
    teardownEntry n cause err s = stepDoneNotice n r 3 none none (s.setSite n { s.site n with
      state := .teardown, origin := some .manual, cause := some cause, errorCode := err,
      teardownStep := (s.site n).current, hot := false, phase := .noStep, watchdog := none, outstanding := 0,
      teardownPhase := some .stop }) := by
  simp only [teardownEntry, (State.works_iff s n).2 (.inr h), if_true, ht, h, (Site.inStep_iff _).2 hp, and_self]
  rfl

/-! ### STOP -/

theorem runTeardown_stop (n : SiteId) (hs : (s.site n).state = .teardown) (hp : (s.site n).teardownPhase = some .stop) :
    runTeardown n s = quietPhase n (abandonStep n s) := by
  simp [runTeardown, hs, hp]

theorem Port.awaits_iff (p : Port) : p.awaits = true ↔ p.awaited ≠ none ∧ p.awaited ≠ some .cancel := by
  cases h : p.awaited <;> simp [Port.awaits, h]

/-- An exchange with a step: a message that awaits its answer and is no CANCEL, a trigger, a fetch. -/
theorem Port.engaged_iff (p : Port) : p.engaged = true ↔
    (p.state = .command ∧ p.awaited ≠ none ∧ p.awaited ≠ some .cancel) ∨ p.state = .triggered ∨ p.state = .fetching := by
  simp only [Port.engaged, Bool.or_eq_true, Bool.and_eq_true, beq_iff_eq, Port.awaits_iff, or_assoc]

theorem Port.abandoned_engaged (n : SiteId) (r : InstrRecord) (p : Port) (h : p.user = some (.site n) ∧ p.engaged = true) :
    p.abandoned n r = p.cancelled r := if_pos h

theorem Port.abandoned_spacing (n : SiteId) (r : InstrRecord) (p : Port) (h : ¬(p.user = some (.site n) ∧ p.engaged = true))
    (x : Timer) (hx : p.spacing = some (n, x)) : p.abandoned n r = { p with spacing := none } := by
  simp only [Port.abandoned, if_neg h, hx, Option.any_some, beq_self_eq_true, if_true]

theorem Port.abandoned_other (n : SiteId) (r : InstrRecord) (p : Port) (h : ¬(p.user = some (.site n) ∧ p.engaged = true))
    (hx : ∀ x, p.spacing ≠ some (n, x)) : p.abandoned n r = p := by
  rw [Port.abandoned, if_neg h, if_neg]
  intro hany
  obtain ⟨⟨m, x⟩, hsome, heq⟩ := Option.any_eq_true .. |>.1 hany
  obtain rfl : m = n := by simpa using heq
  exact hx x hsome

theorem filter_bne {α : Type} [DecidableEq α] (xs : List α) (a : α) : xs.filter (· != a) = xs.filter fun x => x ≠ a :=
  List.filter_congr fun x _ => by simp [bne, Bool.beq_eq_decide_eq]

/-! ### Orders of the safety controller -/

theorem safeOrder_taken (n : SiteId) (cause : Cause) (rest : List Cause) (h : s.orders[n] = cause :: rest) :
    exec (.safeOrder n) s = .next (settle (enterTeardown n cause none { s with orders := s.orders.set n rest })) := by
  show execSafeOrder n s = _
  simp only [execSafeOrder, h]

theorem safeOrder_none (n : SiteId) (h : s.orders[n] = []) : exec (.safeOrder n) s = .next s := by
  show execSafeOrder n s = _
  simp only [execSafeOrder, h]

/-- Settles O20: the entry, what STOP leaves of each part of the state, and the orders. -/
theorem teardownIsEntered : Obligations.TeardownIsEntered := by
  refine ⟨⟨fun n cause err s h => teardownEntry_run s n cause err h, ?_, ?_,
    fun n cause err s h => enterTeardown_works s n cause err h⟩, ⟨fun n s => runTeardown_stop s n, ?_⟩,
    fun n cause rest s => safeOrder_taken s n cause rest, fun n s => safeOrder_none s n⟩
  · intro n cause err s h t
    split
    · rename_i hp
      exact teardownEntry_manual_rest s n cause err h (.inl hp)
    · rename_i ht _
      exact teardownEntry_manual_rest s n cause err h (.inr ht)
    · rename_i r ht hp
      exact teardownEntry_manual_step s n cause err r h hp ht
  · intro n cause err s hr hm
    exact enterTeardown_rest s n cause err (by simp [State.works, hr, hm])
  · intro n s t
    refine ⟨abandonStep_site s n, fun m hm => abandonStep_site_other s n m hm, fun i => ?_, ?_, ?_, ?_, ?_⟩
    · rw [abandonStep_lease, filter_bne]
    · rw [show t.queue = _ from congrArg State.queue (abandonStep_shape s n), filter_bne]
    · rw [show t.agenda = _ from congrArg State.agenda (abandonStep_shape s n)]
      exact List.filter_congr fun x _ => by simp [bne, Bool.beq_eq_decide_eq]
    · intro i p engaged
      have hport : t.port i = p.abandoned n (s.record i) := abandonStep_port s n i
      rw [hport]
      refine ⟨fun ⟨hu, he⟩ => ?_, fun hne => ⟨fun x hx => ?_, fun hx => ?_⟩⟩
      · exact Port.abandoned_engaged n _ p ⟨hu, p.engaged_iff.2 he⟩
      · exact Port.abandoned_spacing n _ p (fun ⟨hu, he⟩ => hne ⟨hu, p.engaged_iff.1 he⟩) x hx
      · exact Port.abandoned_other n _ p (fun ⟨hu, he⟩ => hne ⟨hu, p.engaged_iff.1 he⟩) hx
    · rw [show t = _ from abandonStep_shape s n]

end Sys2Proof.Machine
end

section
/-! The phases of a teardown (O21; R6, R42, R71, R149, R153, R179, R182, R183). -/

namespace Sys2Proof.Machine

variable (s : State)

/-! ### Crosspoints of a route -/

theorem placeOf_lt (bus : BusId) (node : Nat) : placeOf bus node < 512 := by
  have := bus.isLt
  unfold placeOf
  omega

theorem getLsbD_one_shift (m place : Nat) (h : m < 512) : (1#512 <<< m).getLsbD place = decide (m = place) := by
  rw [BitVec.getLsbD_shiftLeft, BitVec.getLsbD_one]
  by_cases he : m = place
  · subst he
    simp [h]
  · simp only [he, decide_false]
    by_cases hlt : place < m
    · simp [hlt]
    · have : place - m ≠ 0 := by omega
      simp [this]

theorem routeBits_getLsbD (bus : BusId) (nodes : List Nat) (k : CardId) (place : Nat) :
    (routeBits bus nodes k).getLsbD place = true ↔ ∃ p ∈ nodes, cardOf p = k ∧ placeOf bus p = place := by
  have all : ∀ b : BitVec 512,
      (nodes.foldl (fun b p => if cardOf p = k then b ||| (1#512 <<< placeOf bus p) else b) b).getLsbD place = true ↔
        b.getLsbD place = true ∨ ∃ p ∈ nodes, cardOf p = k ∧ placeOf bus p = place := by
    induction nodes with
    | nil => simp
    | cons p rest ih =>
      intro b
      rw [List.foldl_cons, ih]
      by_cases hc : cardOf p = k
      · simp [hc, getLsbD_one_shift _ _ (placeOf_lt bus p), or_assoc]
      · simp [hc]
  simpa [routeBits] using all 0

theorem crosspoints_getLsbD (r : LiveRoute) (k : CardId) (place : Nat) : (r.crosspoints[k]).getLsbD place = true ↔
    ∃ p ∈ r.nodes, p / 32 % 16 = k.val ∧ 32 * r.bus.val + p % 32 = place := by
  have hk : r.crosspoints[k] = routeBits r.bus r.nodes k := by simp [LiveRoute.crosspoints]
  rw [hk, routeBits_getLsbD]
  simp only [cardOf, Fin.ext_iff, placeOf]

theorem remove_getLsbD (a b : Matrix) (k : CardId) (place : Nat) : ((a.remove b)[k]).getLsbD place = true ↔
    (a[k]).getLsbD place = true ∧ ¬ (b[k]).getLsbD place = true := by
  have hk : (a.remove b)[k] = a[k] &&& ~~~b[k] := by simp [Matrix.remove]
  rw [hk, BitVec.getLsbD_and, BitVec.getLsbD_not]
  by_cases hp : place < 512
  · simp [hp]
  · simp [BitVec.getLsbD_of_ge _ _ (Nat.not_lt.1 hp)]

/-! ### Entries broken one after another (R65, R71) -/

/-- A route as a break leaves it. -/
def LiveRoute.broken (r : LiveRoute) : LiveRoute :=
  if r.live then { r with state := .breaking, pendingPass := true, timer := none } else r

/-- Some of the entries is live. -/
def State.anyLive (es : List EntryId) : Prop := ∃ e ∈ es, ∃ r, s.route e = some r ∧ r.live = true

/-- A crosspoint of a live one of the entries. -/
def State.liveAt (es : List EntryId) (k : CardId) (place : Nat) : Prop :=
  ∃ e ∈ es, ∃ r, s.route e = some r ∧ r.live = true ∧ (r.crosspoints[k]).getLsbD place = true

/-- The state `t` after the entries `es` of `s` have been broken. -/
structure Broke (es : List EntryId) (s t : State) : Prop where
  only : t = { s with routes := t.routes, image := t.image, chain := t.chain }
  route : ∀ e, t.route e = if e ∈ es then (s.route e).map LiveRoute.broken else s.route e
  image : ∀ (k : CardId) (place : Nat), (t.image[k]).getLsbD place = true ↔
    (s.image[k]).getLsbD place = true ∧ ¬ s.liveAt es k place
  dirty : s.anyLive es → t.chain = { s.chain with dirty := true }
  clean : ¬ s.anyLive es → t.chain = s.chain

theorem LiveRoute.broken_live (r : LiveRoute) : r.broken.live = false := by
  unfold broken
  split
  · rfl
  · rename_i h
    exact Bool.eq_false_iff.2 h

theorem LiveRoute.broken_broken (r : LiveRoute) : r.broken.broken = r.broken := by
  rw [LiveRoute.broken, if_neg (by simp [r.broken_live])]

theorem breakEntry_route_same (e : EntryId) : (breakEntry s e).route e = (s.route e).map LiveRoute.broken := by
  cases h : s.route e with
  | none => rw [breakEntry_other s e (by simp [h]), h, Option.map_none]
  | some r =>
    cases hl : r.live with
    | true =>
      rw [breakEntry_live s e r h hl, Option.map_some, LiveRoute.broken, if_pos hl]
      exact Table.get_put_same ..
    | false =>
      rw [breakEntry_other s e (by simp [h, hl]), h, Option.map_some, LiveRoute.broken, if_neg (by simp [hl])]

theorem breakEntry_route_other (e f : EntryId) (h : f ≠ e) : (breakEntry s e).route f = s.route f := by
  unfold breakEntry
  split
  · split
    · exact Table.get_put_other _ _ _ _ fun he => h (Fin.ext he)
    · rfl
  · rfl

theorem breakEntry_broke (e : EntryId) : Broke [e] s (breakEntry s e) := by
  have hroute : ∀ f, (breakEntry s e).route f = if f ∈ [e] then (s.route f).map LiveRoute.broken else s.route f := by
    intro f
    by_cases hf : f = e
    · subst hf
      rw [breakEntry_route_same, if_pos (by simp)]
    · rw [breakEntry_route_other s e f hf, if_neg (by simpa using hf)]
  by_cases h : ∃ r, s.route e = some r ∧ r.live = true
  · obtain ⟨r, hr, hl⟩ := h
    have hany : s.anyLive [e] := ⟨e, by simp, r, hr, hl⟩
    refine ⟨?_, hroute, fun k place => ?_, fun _ => ?_, fun hn => absurd hany hn⟩
    · rw [breakEntry_live s e r hr hl]
      rfl
    · rw [breakEntry_live s e r hr hl]
      refine (remove_getLsbD s.image r.crosspoints k place).trans (and_congr_right' (not_congr ?_))
      simp [State.liveAt, hr, hl]
    · rw [breakEntry_live s e r hr hl]
      rfl
  · have hany : ¬ s.anyLive [e] := fun ⟨f, hf, r, hr, hl⟩ => h ⟨r, by simpa [List.mem_singleton.1 hf] using hr, hl⟩
    have hat : ∀ k place, ¬ s.liveAt [e] k place := fun k place ⟨f, hf, r, hr, hl, _⟩ => hany ⟨f, hf, r, hr, hl⟩
    have he : breakEntry s e = s := breakEntry_other s e fun r hr => by simpa using fun hl => h ⟨r, hr, hl⟩
    refine ⟨by rw [he], hroute, fun k place => ?_, fun hn => absurd hn hany, fun _ => by rw [he]⟩
    simp [he, hat k place]

variable {s} in
/-- An entry broken once is not live any more, whether it comes again or not. -/
theorem Broke.live_iff {es : List EntryId} {t : State} (h : Broke es s t) (e : EntryId) (r : LiveRoute) :
    (t.route e = some r ∧ r.live = true) ↔ (e ∉ es ∧ s.route e = some r ∧ r.live = true) := by
  rw [h.route e]
  split
  · rename_i he
    simp only [he, not_true_eq_false, false_and, iff_false]
    rintro ⟨hr, hl⟩
    obtain ⟨q, -, rfl⟩ := Option.map_eq_some_iff.1 hr
    simp [q.broken_live] at hl
  · rename_i he
    simp [he]

variable {s} in
theorem Broke.anyLive_cons {es : List EntryId} {t : State} {e : EntryId} (h : Broke [e] s t) :
    s.anyLive (e :: es) ↔ s.anyLive [e] ∨ t.anyLive es := by
  simp only [State.anyLive, h.live_iff, List.mem_cons, List.not_mem_nil, or_false, exists_eq_left]
  grind

variable {s} in
theorem Broke.liveAt_cons {es : List EntryId} {t : State} {e : EntryId} (h : Broke [e] s t) (k : CardId) (place : Nat) :
    s.liveAt (e :: es) k place ↔ s.liveAt [e] k place ∨ t.liveAt es k place := by
  simp only [State.liveAt, ← and_assoc, h.live_iff, List.mem_cons, List.not_mem_nil, or_false, exists_eq_left]
  grind

variable {s} in
theorem Broke.cons {es : List EntryId} {t u : State} {e : EntryId} (h : Broke [e] s t) (k : Broke es t u) :
    Broke (e :: es) s u := by
  refine ⟨?_, fun f => ?_, fun c place => ?_, fun hany => ?_, fun hany => ?_⟩
  · rw [k.only, h.only]
  · rw [k.route f, h.route f]
    by_cases hf : f = e <;> by_cases hes : f ∈ es <;>
      simp [hf, hes, Option.map_map, Function.comp_def, LiveRoute.broken_broken]
  · rw [k.image, h.image, h.liveAt_cons (es := es), not_or, and_assoc]
  · by_cases ht : t.anyLive es
    · rw [k.dirty ht]
      by_cases hs : s.anyLive [e]
      · rw [h.dirty hs]
      · rw [h.clean hs]
    · rw [k.clean ht, h.dirty ((h.anyLive_cons.1 hany).resolve_right ht)]
  · rw [h.anyLive_cons, not_or] at hany
    rw [k.clean hany.2, h.clean hany.1]

theorem foldl_breakEntry_broke (es : List EntryId) : Broke es s (es.foldl breakEntry s) := by
  induction es generalizing s with
  | nil => exact ⟨rfl, fun _ => rfl, by simp [State.liveAt], fun h => by simp [State.anyLive] at h, fun _ => rfl⟩
  | cons e rest ih => exact (breakEntry_broke s e).cons (ih _)

/-! ### The pass that a break asks for (R81) -/

theorem beginPass_only : beginPass s = { s with chain := (beginPass s).chain } := by
  simp only [beginPass]
  split <;> rfl

theorem chainKick_only : chainKick s = { s with chain := (chainKick s).chain } := by
  rcases chainKick_cases s with h | ⟨-, h⟩ <;> rw [h]
  exact beginPass_only s

theorem beginPass_chain : (beginPass s).chain.passNumber = s.chain.passNumber + 1 ∧ (beginPass s).chain.snapshot = s.image := by
  simp only [beginPass]
  split <;> exact ⟨rfl, rfl⟩

theorem chainKick_idle (hp : s.chain.phase = .idle) (hd : s.chain.dirty = true) : chainKick s = beginPass s := by
  simp [chainKick, hp, hd]

theorem chainKick_working (hp : s.chain.phase ≠ .idle) : chainKick s = s := by simp [chainKick, hp]

/-! ### BREAK -/

theorem mem_siteEntries (n : SiteId) (e : EntryId) : e ∈ s.siteEntries n ↔ ∃ r, s.route e = some r ∧ r.site = n := by
  simp [State.siteEntries, allEntries, Option.any_eq_true]

/-- The entries that BREAK takes to BREAKING: the live ones of the site. -/
def State.liveEntries (n : SiteId) : List EntryId :=
  (s.siteEntries n).filter fun e => (s.route e).any LiveRoute.live

theorem LiveRoute.live_iff (r : LiveRoute) : r.live = true ↔ r.state ≠ .breaking := by simp [LiveRoute.live]

theorem mem_liveEntries (n : SiteId) (e : EntryId) :
    e ∈ s.liveEntries n ↔ ∃ r, s.route e = some r ∧ r.site = n ∧ r.state ≠ .breaking := by
  simp only [State.liveEntries, List.mem_filter, mem_siteEntries, Option.any_eq_true, LiveRoute.live_iff]
  constructor
  · rintro ⟨⟨r, hr, hn⟩, q, hq, hl⟩
    obtain rfl := Option.some.inj (hr.symm.trans hq)
    exact ⟨r, hr, hn, hl⟩
  · exact fun ⟨r, hr, hn, hl⟩ => ⟨⟨r, hr, hn⟩, r, hr, hl⟩

theorem anyLive_liveEntries (n : SiteId) :
    s.anyLive (s.liveEntries n) ↔ ∃ e r, s.route e = some r ∧ r.site = n ∧ r.state ≠ .breaking := by
  simp only [State.anyLive, mem_liveEntries, LiveRoute.live_iff]
  constructor
  · rintro ⟨e, h, -⟩
    exact ⟨e, h⟩
  · exact fun ⟨e, r, hr, hn, hl⟩ => ⟨e, ⟨r, hr, hn, hl⟩, r, hr, hl⟩

theorem liveAt_liveEntries (n : SiteId) (k : CardId) (place : Nat) : s.liveAt (s.liveEntries n) k place ↔
    ∃ e r p, s.route e = some r ∧ r.site = n ∧ r.state ≠ .breaking ∧ p ∈ r.nodes ∧ p / 32 % 16 = k.val ∧
      32 * r.bus.val + p % 32 = place := by
  simp only [State.liveAt, mem_liveEntries, LiveRoute.live_iff, crosspoints_getLsbD]
  constructor
  · rintro ⟨e, ⟨q, hq, hn, -⟩, r, hr, hl, p, hp, hk, hplace⟩
    obtain rfl := Option.some.inj (hr.symm.trans hq)
    exact ⟨e, r, p, hr, hn, hl, hp, hk, hplace⟩
  · exact fun ⟨e, r, p, hr, hn, hl, hp, hk, hplace⟩ => ⟨e, ⟨r, hr, hn, hl⟩, r, hr, hl, p, hp, hk, hplace⟩

theorem map_broken_liveEntries (n : SiteId) (e : EntryId) :
    (if e ∈ s.liveEntries n then (s.route e).map LiveRoute.broken else s.route e) = (s.route e).map fun r =>
      if r.site = n ∧ r.state ≠ .breaking then { r with state := .breaking, pendingPass := true, timer := none } else r := by
  cases h : s.route e with
  | none => simp
  | some r =>
    by_cases hn : r.site = n ∧ r.state ≠ .breaking
    · have he : e ∈ s.liveEntries n := (mem_liveEntries s n e).2 ⟨r, h, hn⟩
      rw [if_pos he, Option.map_some, Option.map_some, if_pos hn, LiveRoute.broken, if_pos (r.live_iff.2 hn.2)]
    · have he : e ∉ s.liveEntries n := fun he => by
        obtain ⟨q, hq, hl⟩ := (mem_liveEntries s n e).1 he
        obtain rfl := Option.some.inj (h.symm.trans hq)
        exact hn hl
      rw [if_neg he, Option.map_some, if_neg hn]

theorem breakEntries_nil : breakEntries [] s = s := rfl

theorem breakEntries_kick (es : List EntryId) (h : es ≠ []) :
    breakEntries es s = chainKick (es.foldl breakEntry s) := by
  simp [breakEntries, h]

/-- Breaking entries touches the routes, the image and the chain alone. -/
theorem breakEntries_only (es : List EntryId) : breakEntries es s =
    { s with
      routes := (es.foldl breakEntry s).routes
      image := (es.foldl breakEntry s).image
      chain := (breakEntries es s).chain } := by
  unfold breakEntries
  split
  · rename_i h
    rw [List.isEmpty_iff.1 h]
    rfl
  · have h := (foldl_breakEntry_broke s es).only
    generalize es.foldl breakEntry s = t at h
    rw [chainKick_only t, h]

theorem breakEntries_route (es : List EntryId) (e : EntryId) :
    (breakEntries es s).route e = if e ∈ es then (s.route e).map LiveRoute.broken else s.route e := by
  rw [← (foldl_breakEntry_broke s es).route, breakEntries_only]
  rfl

theorem breakEntries_image (es : List EntryId) (k : CardId) (place : Nat) :
    ((breakEntries es s).image[k]).getLsbD place = true ↔
      (s.image[k]).getLsbD place = true ∧ ¬ s.liveAt es k place := by
  rw [← (foldl_breakEntry_broke s es).image, breakEntries_only]

/-- With a live entry and the chain at rest a pass begins on the image left. -/
theorem breakEntries_idle (es : List EntryId) (h : s.anyLive es) (hp : s.chain.phase = .idle) :
    (breakEntries es s).chain.passNumber = s.chain.passNumber + 1 ∧
      (breakEntries es s).chain.snapshot = (breakEntries es s).image := by
  have hne : es ≠ [] := by
    rintro rfl
    simp [State.anyLive] at h
  have hc := (foldl_breakEntry_broke s es).dirty h
  rw [breakEntries_kick s es hne]
  generalize es.foldl breakEntry s = t at hc
  rw [chainKick_idle t (by rw [hc]; exact hp) (by rw [hc])]
  obtain ⟨hnum, hsnap⟩ := beginPass_chain t
  rw [hnum, hsnap, beginPass_only t, hc]
  exact ⟨rfl, rfl⟩

theorem breakEntries_working (es : List EntryId) (h : s.anyLive es) (hp : s.chain.phase ≠ .idle) :
    (breakEntries es s).chain = { s.chain with dirty := true } := by
  have hne : es ≠ [] := by
    rintro rfl
    simp [State.anyLive] at h
  have hc := (foldl_breakEntry_broke s es).dirty h
  rw [breakEntries_kick s es hne, chainKick_working _ (by rw [hc]; exact hp), hc]

/-- BREAK, with the entries of the site that are live. -/
theorem breakPhase_eq (n : SiteId) : breakPhase n s =
    let t := breakEntries (s.liveEntries n) (setTeardownPhase n .breakRoutes s)
    if t.siteEntries n = [] then releasePhase n t else t := rfl

theorem breakPhase_nothing (n : SiteId) (h : s.siteEntries n = []) :
    breakPhase n s = releasePhase n (setTeardownPhase n .breakRoutes s) := by
  have hl : s.liveEntries n = [] := by rw [State.liveEntries, h, List.filter_nil]
  rw [breakPhase_eq, hl, breakEntries_nil]
  exact if_pos h

/-- A site with an entry in use waits in BREAK. -/
theorem breakPhase_waits (n : SiteId) (h : s.siteEntries n ≠ []) :
    breakPhase n s = breakEntries (s.liveEntries n) (setTeardownPhase n .breakRoutes s) := by
  rw [breakPhase_eq]
  refine if_neg fun hnil => ?_
  obtain ⟨e, he⟩ := List.exists_mem_of_ne_nil _ h
  obtain ⟨r, hr, hn⟩ := (mem_siteEntries s n e).1 he
  have hroute := breakEntries_route (setTeardownPhase n .breakRoutes s) (s.liveEntries n) e
  generalize breakEntries (s.liveEntries n) (setTeardownPhase n .breakRoutes s) = t at hnil hroute
  have hmem : e ∈ t.siteEntries n := by
    rw [mem_siteEntries, hroute]
    rw [show (setTeardownPhase n .breakRoutes s).route e = some r from hr]
    split
    · refine ⟨_, rfl, ?_⟩
      unfold LiveRoute.broken
      split <;> exact hn
    · exact ⟨r, rfl, hn⟩
  rw [hnil] at hmem
  cases hmem

end Sys2Proof.Machine
end

section
/-! RELEASE and RECORD, and a run that ends in one event (O21; R6, R42, R149, R153, R182, R183). -/

namespace Sys2Proof.Machine

variable (s : State)

/-! ### RELEASE -/

/-- A lease as RELEASE leaves it of site `n`: what it held goes to the head of the queue (R40, R42). -/
def Lease.released (n : SiteId) (l : Lease) : Lease :=
  if l.holder = some n then
    match l.queue with
    | [] => ⟨none, []⟩
    | head :: rest => ⟨some head, rest⟩
  else l

/-- The step of RELEASE for one instrument. -/
theorem releaseOne_eq (n : SiteId) (i : InstrId) :
    (if s.holds n i then handover i s else s) = s.setLease i ((s.lease i).released n) := by
  simp only [State.holds, beq_iff_eq, Lease.released]
  split
  · cases h : (s.lease i).queue with
    | nil => rw [handover_empty s i h]
    | cons head rest => rw [handover_head s i head rest h]
  · rw [State.setLease_own]

theorem handoverAll_eq (n : SiteId) :
    handoverAll n s = allInsts.foldl (fun s i => s.setLease i ((s.lease i).released n)) s := by
  unfold handoverAll
  congr 1
  funext t i
  exact releaseOne_eq t n i

theorem foldl_setLease (f : Lease → Lease) (is : List InstrId) (hd : is.Nodup) :
    let t := is.foldl (fun s i => s.setLease i (f (s.lease i))) s
    t = { s with leases := t.leases } ∧ ∀ i, t.lease i = if i ∈ is then f (s.lease i) else s.lease i := by
  induction is generalizing s with
  | nil => exact ⟨rfl, fun i => rfl⟩
  | cons x rest ih =>
    rw [List.nodup_cons] at hd
    obtain ⟨honly, hlease⟩ := ih (s.setLease x (f (s.lease x))) hd.2
    simp only [List.foldl_cons]
    refine ⟨honly, fun i => ?_⟩
    rw [hlease i]
    by_cases hx : i = x
    · subst hx
      rw [if_neg hd.1, if_pos (by simp), State.setLease_lease_same]
    · rw [State.setLease_lease_other s x _ i (Ne.symm hx)]
      simp [hx]

theorem handoverAll_only (n : SiteId) : handoverAll n s = { s with leases := (handoverAll n s).leases } := by
  rw [handoverAll_eq]
  exact (foldl_setLease s (Lease.released n) allInsts (by decide)).1

theorem handoverAll_lease (n : SiteId) (i : InstrId) : (handoverAll n s).lease i = (s.lease i).released n := by
  rw [handoverAll_eq, (foldl_setLease s (Lease.released n) allInsts (by decide)).2 i, if_pos (mem_allInsts i)]

/-! ### RECORD -/

theorem verdictOf_eq (cause : Option Cause) (worst : Option Worst) : verdictOf cause worst =
    if cause = some .complete then
      match worst with
      | some .fail => Verdict.fail
      | some .margin => .margin
      | _ => .pass
    else .aborted := by
  rcases cause with _ | _ | _ | _ | _ | _ | _ | _ | _ | _ <;> rcases worst with _ | _ | _ | _ <;> rfl

/-- A site without a run just rests. -/
theorem recordPhase_manual (n : SiteId) (h : (s.site n).origin ≠ some .run) :
    recordPhase n s = s.setSite n { s.site n with
      state := if s.usable n then .idle else .unseated, current := none, teardownPhase := none } := by
  simp only [recordPhase, setTeardownPhase, State.setSite_site_same, h, if_false, endTeardown, State.setSite_setSite]
  rfl

/-- The state after the RUN_END record has been posted and its site rests, before the notices. -/
def runEnded (n : SiteId) : State :=
  (post (.runEnd (runEndRecord s n)) s).setSite n { s.site n with
    state := s.restState n, current := none, teardownPhase := none }

theorem recordPhase_run (n : SiteId) (h : (s.site n).origin = some .run) :
    recordPhase n s = examineSpace (readyIf s.queue.posted.isEmpty (.runEnd (runEndRecord s n))
      (runEndNotice (runEndRecord s n) (runEnded s n))) := by
  have horigin : ((setTeardownPhase n .record s).site n).origin = some .run := by
    rw [setTeardownPhase, State.setSite_site_same]
    exact h
  have hrec : runEndRecord (setTeardownPhase n .record s) n = runEndRecord s n := by
    simp only [runEndRecord, setTeardownPhase, State.setSite_site_same]
    rfl
  have hrest (filed : ResultRecord) :
      endTeardown n (post filed (setTeardownPhase n .record s)) = (post filed s).setSite n { s.site n with
        state := s.restState n, current := none, teardownPhase := none } := by
    have hsite : (post filed (setTeardownPhase n .record s)).site n = { s.site n with teardownPhase := some .record } :=
      State.setSite_site_same s n _
    rw [endTeardown, hsite]
    exact State.setSite_setSite (post filed s) n _ _
  rw [recordPhase]
  simp only [hrec, hrest]
  rw [if_pos horigin]
  rfl

/-- The RUN_END notice of a record (R149). -/
theorem runEndNotice_eq (r : RunEndRecord) : runEndNotice r s = notice 0x81
    ([BitVec.ofNat 8 r.site] ++ le16 r.runNumber.toNat ++ le32 r.seq.toNat ++
      [match r.cause with | some x => BitVec.ofNat 8 (causeCode x) | none => 0xFF,
        match r.errorCode with | some x => BitVec.ofNat 8 (errorCode x) | none => 0xFF,
        BitVec.ofNat 8 (verdictCode r.verdict), if r.hot then 1 else 0] ++ le32 s.time.toNat) s := by
  unfold runEndNotice
  cases r.cause <;> cases r.errorCode <;> rfl

/-- The RUN_END record of a site, its verdict spelt out (R153). -/
theorem runEndRecord_eq (n : SiteId) : runEndRecord s n =
    let c := s.site n
    { seq := s.queue.seq, site := n, runNumber := c.runNumber, cause := c.cause, errorCode := c.errorCode
      step := c.teardownStep, passCount := c.passCount, marginCount := c.marginCount, failCount := c.failCount
      noJudgeCount := c.noJudgeCount, stepsTaken := c.stepsTaken, worst := c.worst
      verdict := if c.cause = some .complete then
          match c.worst with
          | some .fail => Verdict.fail
          | some .margin => .margin
          | _ => .pass
        else .aborted
      hot := c.hot, start := c.runStart, duration := s.time - c.runStart } := by
  rw [runEndRecord, verdictOf_eq]

theorem notice_only (kind : Byte) (body : List Byte) : notice kind body s = { s with link := (notice kind body s).link } := by
  obtain ⟨l, h, -⟩ := notice_shape s kind body
  rw [h]
  rfl

@[simp] theorem notice_time (kind : Byte) (body : List Byte) : (notice kind body s).time = s.time := by rw [notice_only]

/-- RESULTS_READY follows a RUN_END record that entered an empty queue (R150). -/
theorem readyIf_runEnd (posted : List ResultRecord) (r : RunEndRecord) :
    readyIf posted.isEmpty (.runEnd r) s = if posted = [] then
      notice 0x80 (le32 r.seq.toNat ++ [0x03, BitVec.ofNat 8 r.site] ++ le32 s.time.toNat) s else s := by
  simp only [readyIf, List.isEmpty_iff]
  rfl

/-- Nothing waits for space: the examination changes nothing (R155). -/
theorem examineSpace_nil (h : s.queue.space = []) : examineSpace s = s := by
  rw [examineSpace, h]
  rfl

/-- Without a live entry BREAK breaks nothing. -/
theorem liveEntries_nil (n : SiteId) (h : ∀ e r, s.route e = some r → r.site = n → r.state = .breaking) :
    s.liveEntries n = [] := by
  refine List.eq_nil_iff_forall_not_mem.2 fun e he => ?_
  obtain ⟨r, hr, hn, hl⟩ := (mem_liveEntries s n e).1 he
  exact hl (h e r hr hn)

theorem breakEntries_parts (es : List EntryId) : breakEntries es s = { s with
    sites := (breakEntries es s).sites, routes := (breakEntries es s).routes, image := (breakEntries es s).image
    chain := (breakEntries es s).chain } := by
  rw [breakEntries_only]

/-! ### A run that ends in one event -/

theorem readyIf_only (b : Bool) (filed : ResultRecord) : readyIf b filed s = { s with link := (readyIf b filed s).link } := by
  cases b
  · rfl
  · exact notice_only ..

/-- With nothing waiting for space, RECORD is the record posted and the site at rest; the notices change the link alone. -/
theorem recordPhase_only (n : SiteId) (h : (s.site n).origin = some .run) (hq : s.queue.space = []) :
    recordPhase n s = { runEnded s n with link := (recordPhase n s).link } := by
  have hn := notice_only (runEnded s n)
  have hr := readyIf_only (runEndNotice (runEndRecord s n) (runEnded s n)) s.queue.posted.isEmpty
    (.runEnd (runEndRecord s n))
  rw [runEndNotice, hn] at hr
  rw [recordPhase_run s n h, runEndNotice, hn, examineSpace_nil]
  · exact hr
  · rw [hr]
    exact hq

theorem ext_leases {s t : State} (h : ∀ i, t.lease i = s.lease i) : t.leases = s.leases :=
  Vector.ext fun i hi => h ⟨i, hi⟩

theorem ext_ports {s t : State} (h : ∀ i, t.port i = s.port i) : t.ports = s.ports :=
  Vector.ext fun i hi => h ⟨i, hi⟩

theorem handoverAll_free (n : SiteId) (hh : ∀ i, (s.lease i).holder ≠ some n) : handoverAll n s = s := by
  rw [handoverAll_only, ext_leases fun i => (handoverAll_lease s n i).trans (if_neg (hh i))]

/-- The phases of a site that holds no instrument and has no entry in use, from the end of STOP on: RECORD follows at
once. -/
theorem quietPhase_free (n : SiteId) (hh : ∀ i, (s.lease i).holder ≠ some n) (he : s.siteEntries n = []) :
    quietPhase n s = recordPhase n (s.setSite n { s.site n with teardownPhase := some .release, outstanding := 0 }) := by
  have hq : s.quietAsked n = [] := by
    rw [State.quietAsked, List.filter_eq_nil_iff]
    intro i _
    simp [State.holds, hh i]
  simp only [quietPhase, hq, if_true]
  rw [breakPhase_nothing (s.setSite n _) n he, setTeardownPhase, State.setSite_site_same, State.setSite_setSite,
    releasePhase, setTeardownPhase, State.setSite_site_same, State.setSite_setSite, handoverAll_free (s.setSite n _) n hh]
  rfl

/-- A port that the site does not use is left alone by STOP. -/
theorem abandonStep_ports (n : SiteId) (hp : ∀ i, (s.port i).user ≠ some (.site n) ∧ (s.port i).spacing = none) :
    (abandonStep n s).ports = s.ports := by
  refine ext_ports fun i => ?_
  obtain ⟨huser, hspacing⟩ := hp i
  rw [abandonStep_port, Port.abandoned_other n _ _ (fun h => huser h.1) (by simp [hspacing])]

theorem siteEntries_of_routes {s t : State} (h : t.routes = s.routes) (n : SiteId) : t.siteEntries n = s.siteEntries n := by
  simp only [State.siteEntries, State.route, h]

theorem usable_of_parts {s t : State} (hf : t.fixture = s.fixture) (hl : t.lines = s.lines) (n : SiteId) :
    t.usable n = s.usable n := by
  simp only [State.usable, State.line, State.lidClosed, hf, hl]

/-- A site context in the TEARDOWN of a run as STOP and QUIET leave it, with nothing to give back. -/
def Site.stopped (c : Site) (cause : Cause) (err : Option StepError) : Site :=
  { c with
    state := .teardown, origin := some .run, cause := some cause, errorCode := err, teardownStep := c.current
    hot := false, phase := .noStep, watchdog := none, taking := none, stepTimer := none, settleOn := none
    needNodes := [], meas := .empty, teardownPhase := some .release, outstanding := 0 }

/-- The state in which the teardown of a run with nothing to give back reaches RECORD. -/
structure AtRecord (n : SiteId) (cause : Cause) (err : Option StepError) (s v : State) : Prop where
  site : v.site n = (s.site n).stopped cause err
  other : ∀ m, m ≠ n → v.site m = s.site m
  holder : ∀ i, (v.lease i).holder = (s.lease i).holder
  ports : v.ports = s.ports
  posted : v.queue.posted = s.queue.posted
  seq : v.queue.seq = s.queue.seq
  space : v.queue.space = s.queue.space.filter (· != n)
  rest : v = { s with
    sites := v.sites, leases := v.leases, queue := v.queue, agenda := v.agenda, ports := v.ports }

theorem enterTeardown_free (n : SiteId) (cause : Cause) (err : Option StepError) (hs : (s.site n).state = .run)
    (hfree : ∀ i, (s.lease i).holder ≠ some n ∧ (s.port i).user ≠ some (.site n) ∧ (s.port i).spacing = none)
    (he : s.siteEntries n = []) : ∃ v, AtRecord n cause err s v ∧ enterTeardown n cause err s = recordPhase n v := by
  have hentry : teardownEntry n cause err s = s.setSite n ((s.site n).tornDown cause err) := by
    rw [teardownEntry_works s n cause err ((State.works_iff s n).2 (.inl hs)) (by simp [hs])]
    rfl
  rw [enterTeardown_works s n cause err (.inl hs), hentry,
    runTeardown_stop _ n (by rw [State.setSite_site_same]; rfl) (by rw [State.setSite_site_same]; rfl)]
  have hshape := abandonStep_shape (s.setSite n ((s.site n).tornDown cause err)) n
  have hsite := abandonStep_site (s.setSite n ((s.site n).tornDown cause err)) n
  have hother := abandonStep_site_other (s.setSite n ((s.site n).tornDown cause err)) n
  have hlease := abandonStep_lease (s.setSite n ((s.site n).tornDown cause err)) n
  have hports := abandonStep_ports (s.setSite n ((s.site n).tornDown cause err)) n fun i => (hfree i).2
  generalize abandonStep n (s.setSite n ((s.site n).tornDown cause err)) = u at *
  rw [State.setSite_site_same] at hsite
  have hroutes : u.routes = s.routes := by rw [hshape]; rfl
  refine ⟨_, ?_, quietPhase_free u n (fun i => ?_) ((siteEntries_of_routes hroutes n).trans he)⟩
  · refine ⟨?_, fun m hm => ?_, fun i => ?_, hports, ?_, ?_, ?_, ?_⟩
    · rw [State.setSite_site_same, hsite, Site.stopped, Site.tornDown, if_pos hs]
      rfl
    · rw [State.setSite_site_other u n _ m hm.symm, hother m hm, State.setSite_site_other s n _ m hm.symm]
    · rw [State.setSite_lease, hlease]
      rfl
    · rw [State.setSite_queue, hshape]
      rfl
    · rw [State.setSite_queue, hshape]
      rfl
    · rw [State.setSite_queue, hshape]
      rfl
    · rw [hshape]
      rfl
  · rw [hlease]
    exact (hfree i).1

/-- Settles O21: the phases in order, and their composition for a site with nothing to give back. -/
theorem runEndsWithItsRecord : Obligations.RunEndsWithItsRecord := by
  refine ⟨⟨fun n s h => breakPhase_nothing s n h, ?_, ?_, ?_⟩, ?_⟩
  · intro n s
    refine ⟨mem_siteEntries s n, fun h => ?_⟩
    have hsites := breakEntries_sites (setTeardownPhase n .breakRoutes s) (s.liveEntries n)
    have hlive := anyLive_liveEntries s n
    rw [breakPhase_waits s n h]
    refine ⟨?_, fun m hm => ?_, fun e => ?_, fun k place => ?_, fun hany hp => ?_, fun hany hp => ?_, fun hall => ?_, ?_⟩
    · rw [site_of_sites hsites]
      exact State.setSite_site_same ..
    · rw [site_of_sites hsites]
      exact State.setSite_site_other _ _ _ _ hm.symm
    · rw [breakEntries_route, ← map_broken_liveEntries]
      rfl
    · rw [breakEntries_image, ← liveAt_liveEntries]
      rfl
    · exact breakEntries_idle (setTeardownPhase n .breakRoutes s) _ (hlive.2 hany) hp
    · exact breakEntries_working (setTeardownPhase n .breakRoutes s) _ (hlive.2 hany) hp
    · rw [liveEntries_nil s n hall, breakEntries_nil]
      rfl
    · exact breakEntries_parts (setTeardownPhase n .breakRoutes s) _
  · intro n s
    refine ⟨handoverAll n (setTeardownPhase n .release s), handoverAll_only _ n, fun i => ?_, rfl⟩
    rw [handoverAll_lease]
    rfl
  · intro n s rest
    refine ⟨recordPhase_manual s n, fun h => ?_⟩
    simp only
    rw [recordPhase_run s n h, runEndNotice_eq, readyIf_runEnd, notice_time, runEndRecord_eq, runEnded, runEndRecord_eq]
    rfl
  · intro n cause err s hs hfree he hq t
    obtain ⟨v, hv, ht⟩ := enterTeardown_free s n cause err hs hfree he
    have hspace : v.queue.space = [] := by rw [hv.space, hq, List.filter_nil]
    have horigin : (v.site n).origin = some .run := by rw [hv.site]; rfl
    have hend : t = { runEnded v n with link := t.link } := by
      rw [show t = _ from ht]
      exact recordPhase_only v n horigin hspace
    have htime : v.time = s.time := by rw [hv.rest]
    have husable : v.usable n = s.usable n := by
      refine usable_of_parts ?_ ?_ n <;> rw [hv.rest]
    have hsite : t.site n = { (s.site n).stopped cause err with
        state := if s.usable n then .idle else .unseated, current := none, teardownPhase := none } := by
      rw [hend, ← hv.site, ← husable]
      exact State.setSite_site_same ..
    refine ⟨?_, by rw [hsite], by rw [hsite], by rw [hsite], by rw [hsite]; rfl, by rw [hsite]; rfl, by rw [hsite]; rfl,
      by rw [hsite]; rfl, by rw [hsite]; rfl, by rw [hsite]; rfl, ?_, ?_, ?_, fun m hm => ?_, fun i => ?_, ?_⟩
    · have hqueue : t.queue =
          ⟨v.queue.posted ++ [.runEnd (runEndRecord v n)], v.queue.seq + 1, v.queue.space⟩ := by
        rw [hend]
        rfl
      rw [hqueue, hv.posted, hspace, runEndRecord_eq, hv.site, hv.seq, htime]
      simp only [Site.stopped, Option.some.injEq] <;> rfl
    · rw [hend]
      exact show v.routes = s.routes by rw [hv.rest]
    · rw [hend]
      exact show v.image = s.image by rw [hv.rest]
    · rw [hend]
      exact show v.chain = s.chain by rw [hv.rest]
    · rw [hend, ← hv.other m hm]
      exact State.setSite_site_other _ n _ m hm.symm
    · rw [hend, ← hv.holder i]
      rfl
    · rw [hend, ← hv.ports]
      rfl

end Sys2Proof.Machine
end

section
/-! The loads of the tables and the reading of slots (O24; R10 to R12, R52, R53, R123, R124). -/

namespace Sys2Proof.Machine

variable (s : State)

/-! ### Records of one size -/

theorem mapM_of_read {α β γ : Type} (f : α → β) (g : α → γ) (read : β → Option γ) (xs : List α)
    (h : ∀ x ∈ xs, read (f x) = some (g x)) : (xs.map f).mapM read = some (xs.map g) := by
  induction xs with
  | nil => rfl
  | cons x rest ih =>
    rw [List.map_cons, List.mapM_cons, h x (by simp), ih fun y hy => h y (by simp [hy])]
    rfl

theorem mapM_none_of_mem {α β : Type} (read : β → Option α) (ys : List β) (y : β) (hy : y ∈ ys) (h : read y = none) :
    ys.mapM read = none := by
  induction ys with
  | nil => cases hy
  | cons z rest ih =>
    rw [List.mapM_cons]
    rcases List.mem_cons.1 hy with rfl | hrest
    · rw [h]
      rfl
    · cases read z with
      | none => rfl
      | some a => simp [ih hrest]

theorem length_flatMap_of_size {α : Type} (size : Nat) (f : α → List Byte) (xs : List α)
    (h : ∀ x ∈ xs, (f x).length = size) : (xs.flatMap f).length = xs.length * size := by
  induction xs with
  | nil => simp
  | cons x rest ih =>
    rw [List.flatMap_cons, List.length_append, h x (by simp), ih fun y hy => h y (by simp [hy]), List.length_cons,
      Nat.succ_mul, Nat.add_comm]

/-- Records written one after another are read back as written. -/
theorem readRecords_flatMap {α : Type} (size : Nat) (hsize : 0 < size) (f : α → List Byte) (read : List Byte → Option α)
    (xs : List α) (h : ∀ x ∈ xs, (f x).length = size ∧ read (f x) = some x) :
    readRecords read size (xs.flatMap f) = some xs := by
  have hlen := length_flatMap_of_size size f xs fun x hx => (h x hx).1
  have hchunks := chunks_flatMap size f xs [] fun x hx => (h x hx).1
  rw [List.append_nil] at hchunks
  rw [readRecords, hlen, Nat.mul_div_cancel _ hsize, hchunks, mapM_of_read f id read xs fun x hx => (h x hx).2,
    List.map_id]

theorem mem_chunks (size count k : Nat) (bs : List Byte) (h : k < count) :
    (bs.drop (size * k)).take size ∈ chunks size count bs := by
  induction count generalizing k bs with
  | zero => cases h
  | succ count ih =>
    cases k with
    | zero => simp [chunks]
    | succ k =>
      have hmem := ih k (bs.drop size) (Nat.lt_of_succ_lt_succ h)
      rw [List.drop_drop, Nat.add_comm, ← Nat.mul_succ] at hmem
      exact List.mem_cons_of_mem _ hmem

/-- One record that is not read refuses them all. -/
theorem readRecords_none {α : Type} (read : List Byte → Option α) (size k : Nat) (bs : List Byte) (hk : k < bs.length / size)
    (h : read ((bs.drop (size * k)).take size) = none) : readRecords read size bs = none :=
  mapM_none_of_mem read _ _ (mem_chunks size _ k bs hk) h

/-! ### Loads -/

section
variable {α : Type} (kind tag : Byte) (places size : Nat) (read : List Byte → Option (Option α)) (table : State → Table α)
  (write : State → Table α → State) (first : Nat) (clear : Byte) (records : List Byte)

theorem loadTable_busy (h : s.anyBusySite = true) :
    loadTable kind tag places size read table write first clear records s = send ⟨kind + 0x40, tag, [0x04]⟩ s := by
  rw [loadTable, if_pos h]
  rfl

theorem loadTable_beyond (h : s.anyBusySite = false) (hp : places < first + records.length / size) :
    loadTable kind tag places size read table write first clear records s = send ⟨kind + 0x40, tag, [0x03]⟩ s := by
  rw [loadTable, if_neg (by simp [h]), if_pos hp]
  rfl

theorem loadTable_loads (h : s.anyBusySite = false) (hp : first + records.length / size ≤ places)
    (rs : List (Option α)) (c : Bool) (hr : readRecords read size records = some rs) (hc : readFlag clear = some c) :
    loadTable kind tag places size read table write first clear records s =
      send ⟨kind + 0x40, tag, [0x00]⟩ (write s ((if c then .empty else table s).assignFrom first rs)) := by
  rw [loadTable, if_neg (by simp [h]), if_neg (Nat.not_lt.2 hp), hr, hc]
  rfl

/-- A record that is not read, or a clear flag above 1, is refused. -/
theorem loadTable_refuses (h : s.anyBusySite = false)
    (hbad : 1 < clear.toNat ∨ ∃ k < records.length / size, read ((records.drop (size * k)).take size) = none) :
    loadTable kind tag places size read table write first clear records s = send ⟨kind + 0x40, tag, [0x03]⟩ s := by
  have hnone : readFlag clear = none ∨ readRecords read size records = none :=
    hbad.imp (readFlag_none clear) fun ⟨k, hk, hread⟩ => readRecords_none read size k records hk hread
  rw [loadTable, if_neg (by simp [h])]
  split
  · rfl
  · rcases hnone with hn | hn
    · rw [hn]
      cases readRecords read size records <;> rfl
    · rw [hn]
      rfl

end

/-- The checks of a load and its effect, for a load that is `loadTable` on every body of whole records, and records that are
read back as written. -/
theorem loadChecks_of {α : Type} {c : Byte → List Byte → Instr} {kind : Byte} {indices places : Nat} (size : Nat)
    {firstBytes : Nat → List Byte} {bytes : Option α → List Byte} {ok : Option α → Bool} {table : State → Table α}
    {write : State → Table α → State} (read : List Byte → Option (Option α)) (hsize : 0 < size)
    (hb : ∀ r, ok r = true → (bytes r).length = size ∧ read (bytes r) = some r)
    (hc : ∀ (tag : Byte) (first : Nat) (clear : Bool) (records : List Byte), first < indices → records.length % size = 0 →
      ∀ guard effect, (∀ s, guard s →
        loadTable kind tag places size read table write first (if clear then 1 else 0) records s = effect s) →
      Answers (c tag (firstBytes first ++ flagByte clear ++ records))
        ⟨kind, tag, firstBytes first ++ flagByte clear ++ records⟩ guard effect) :
    LoadChecks c kind indices places firstBytes bytes ok table write := by
  intro tag first clear records hf hok body
  have hread : ∀ r ∈ records, (bytes r).length = size ∧ read (bytes r) = some r :=
    fun r hr => hb r (List.all_eq_true.1 hok r hr)
  have hlen := length_flatMap_of_size size bytes records fun r hr => (hread r hr).1
  have hcount : (records.flatMap bytes).length / size = records.length := by rw [hlen, Nat.mul_div_cancel _ hsize]
  have hrecords := readRecords_flatMap size hsize bytes read records hread
  have hflag : readFlag (if clear then 1 else 0) = some clear := by cases clear <;> rfl
  have answers := hc tag first clear (records.flatMap bytes) hf (by rw [hlen, Nat.mul_mod_left])
  refine ⟨answers _ _ fun s h => ?_, fun hp => answers _ _ fun s h => ?_, fun hp => answers _ _ fun s h => ?_⟩
  · exact loadTable_busy s kind tag places size read table write first _ _ h
  · exact loadTable_beyond s kind tag places size read table write first _ _ h (by rwa [hcount])
  · exact loadTable_loads s kind tag places size read table write first _ _ h (by rwa [hcount]) records clear hrecords hflag

theorem loadLength_allowed (fixed size length : Nat) (h : length % size = 0) :
    loadLength fixed size (length + fixed) = true := by
  simp [loadLength, h]

theorem stepsLoad_answers {tag f0 f1 clear : Byte} {records : List Byte} {guard : State → Prop} {effect : State → State}
    (hl : records.length % 20 = 0) (hh : ∀ s, guard s →
      loadTable 0x08 tag 2048 20 (fun bs => (readStepRecord bs).map some) State.steps (fun s t => { s with steps := t })
        (read16 f0 f1) clear records s = effect s) :
    Answers (.stepsLoad tag (f0 :: f1 :: clear :: records)) ⟨0x08, tag, f0 :: f1 :: clear :: records⟩ guard effect := by
  refine Answers.of id _ (fun s => rfl) fun s hg => ?_
  have hlen : loadLength 3 20 (f0 :: f1 :: clear :: records).length = true := loadLength_allowed 3 20 records.length hl
  rw [hlen, withLength_allowed]
  exact hh s hg

theorem routedefLoad_answers {tag first clear : Byte} {records : List Byte} {guard : State → Prop}
    {effect : State → State} (hl : records.length % 21 = 0) (hh : ∀ s, guard s →
      loadTable 0x0A tag 256 21 readRouteDef State.routeDefs (fun s t => { s with routeDefs := t }) first.toNat clear records
        s = effect s) :
    Answers (.routedefLoad tag (first :: clear :: records)) ⟨0x0A, tag, first :: clear :: records⟩ guard effect := by
  refine Answers.of id _ (fun s => rfl) fun s hg => ?_
  have hlen : loadLength 2 21 (first :: clear :: records).length = true := loadLength_allowed 2 21 records.length hl
  rw [hlen, withLength_allowed]
  exact hh s hg

theorem limitsLoad_answers {tag first clear : Byte} {records : List Byte} {guard : State → Prop}
    {effect : State → State} (hl : records.length % 18 = 0) (hh : ∀ s, guard s →
      loadTable 0x0B tag 256 18 readLimitSet State.limits (fun s t => { s with limits := t }) first.toNat clear records s =
        effect s) :
    Answers (.limitsLoad tag (first :: clear :: records)) ⟨0x0B, tag, first :: clear :: records⟩ guard effect := by
  refine Answers.of id _ (fun s => rfl) fun s hg => ?_
  have hlen : loadLength 2 18 (first :: clear :: records).length = true := loadLength_allowed 2 18 records.length hl
  rw [hlen, withLength_allowed]
  exact hh s hg

theorem toNat_ofNat8 (n : Nat) (h : n < 256) : (BitVec.ofNat 8 n).toNat = n := by
  rw [BitVec.toNat_ofNat]
  exact Nat.mod_eq_of_lt h

theorem routeDefBytes_read (r : Option RouteDef) (h : r.all RouteDef.inRange = true) :
    (routeDefBytes r).length = 21 ∧ readRouteDef (routeDefBytes r) = some r := by
  cases r with
  | none => exact ⟨rfl, rfl⟩
  | some r => exact ⟨routeDefBytes_length r h, readRouteDef_bytes r h⟩

theorem limitSetBytes_read (l : Option LimitSet) (h : l.all LimitSet.inRange = true) :
    (limitSetBytes l).length = 18 ∧ readLimitSet (limitSetBytes l) = some l := by
  cases l with
  | none => exact ⟨rfl, rfl⟩
  | some l => exact ⟨limitSetBytes_length l, readLimitSet_bytes l h⟩

theorem stepBytes_read (r : Option StepRecord) (h : r.any StepRecord.inRange = true) :
    ((r.map stepRecordBytes).getD []).length = 20 ∧
      (readStepRecord ((r.map stepRecordBytes).getD [])).map some = some r := by
  cases r with
  | none => cases h
  | some r =>
    refine ⟨stepRecordBytes_length r, ?_⟩
    rw [Option.map_some, Option.getD_some, readStepRecord_bytes r h]
    rfl

/-! ### STEPS_READ -/

theorem stepsRead_answers {tag f0 f1 count : Byte} {guard : State → Prop} {effect : State → State}
    (hh : ∀ s, guard s →
      (if count = 0 ∨ 2048 < read16 f0 f1 + count.toNat ∨ 51 < count.toNat then reply 0x09 tag .badValue [] s
       else reply 0x09 tag .ok ((List.range' (read16 f0 f1) count.toNat).flatMap (slotBytes s)) s) = effect s) :
    Answers (.stepsRead tag [f0, f1, count]) ⟨0x09, tag, [f0, f1, count]⟩ guard effect :=
  Answers.of id _ (fun _ => rfl) hh

/-- Settles O24: the loads through `loadTable`, and STEPS_READ. -/
theorem tablesAreLoadedAndRead : Obligations.TablesAreLoadedAndRead := by
  refine ⟨⟨?_, ?_⟩, ⟨?_, ?_⟩, ?_, ?_, ?_, ?_⟩
  · refine loadChecks_of 20 (fun bs => (readStepRecord bs).map some) (by decide) stepBytes_read ?_
    intro tag first clear records hf hl guard effect hh
    refine stepsLoad_answers hl fun s hg => ?_
    rw [read16_le16 first hf]
    exact hh s hg
  · exact fun tag f0 f1 clear records hl hbad => stepsLoad_answers hl fun s h =>
      loadTable_refuses s _ _ _ _ _ _ _ _ _ _ h (hbad.imp id fun ⟨k, hk, hr⟩ => ⟨k, hk, by rw [hr]; rfl⟩)
  · intro tag f0 f1 count h0 hfit hmax
    refine stepsRead_answers fun s _ => ?_
    rw [if_neg (by rintro (h | h | h) <;> [exact h0 h; omega; omega])]
    rfl
  · intro tag f0 f1 count hbad
    refine stepsRead_answers fun s _ => ?_
    rw [if_pos hbad]
    rfl
  · refine loadChecks_of 21 readRouteDef (by decide) routeDefBytes_read ?_
    intro tag first clear records hf hl guard effect hh
    refine routedefLoad_answers hl fun s hg => ?_
    rw [toNat_ofNat8 first hf]
    exact hh s hg
  · refine loadChecks_of 18 readLimitSet (by decide) limitSetBytes_read ?_
    intro tag first clear records hf hl guard effect hh
    refine limitsLoad_answers hl fun s hg => ?_
    rw [toNat_ofNat8 first hf]
    exact hh s hg
  · exact fun tag first clear records hl hbad => routedefLoad_answers hl fun s h =>
      loadTable_refuses s _ _ _ _ _ _ _ _ _ _ h hbad
  · exact fun tag first clear records hl hbad => limitsLoad_answers hl fun s h =>
      loadTable_refuses s _ _ _ _ _ _ _ _ _ _ h hbad

end Sys2Proof.Machine
end

section
/-! Usability, the filter of the lines and INPUTS_SET (O49; R2, R158 to R160, R162). -/

namespace Sys2Proof.Machine

variable (s : State)

/-! ### Usability -/

theorem inForce_iff (f : Fixture) : f.inForce = true ↔ f.state = .valid ∨ f.state = .emulated := by simp [Fixture.inForce]

theorem usable_iff (n : SiteId) : s.usable n = true ↔ (s.fixture.state = .valid ∨ s.fixture.state = .emulated) ∧
    (∃ i, s.fixture.held = some i ∧ n.val < i.header.siteCount.toNat) ∧
    (s.line (seatLine n)).active = true ∧ (s.line 16).active = true := by
  simp only [State.usable, Bool.and_eq_true, inForce_iff, State.lidClosed, and_assoc]
  cases s.fixture.held <;> simp [lidLine]

/-- A site context as its usability judges it: at rest it is IDLE or UNSEATED, at work it does not move (R2). -/
def Site.judged (c : Site) (usable : Bool) : Site :=
  if c.state = .unseated ∨ c.state = .idle then { c with state := if usable then .idle else .unseated } else c

theorem busySite_iff (n : SiteId) :
    s.busySite n = true ↔ ¬ ((s.site n).state = .unseated ∨ (s.site n).state = .idle) := by
  simp only [State.busySite, State.works]
  cases (s.site n).state <;> simp

theorem judgeSite_eq (n : SiteId) : judgeSite s n = s.setSite n ((s.site n).judged (s.usable n)) := by
  rw [judgeSite, Site.judged]
  by_cases h : (s.site n).state = .unseated ∨ (s.site n).state = .idle
  · rw [if_pos h, if_neg (by rw [busySite_iff]; exact not_not.2 h)]
    rfl
  · rw [if_neg h, if_pos ((busySite_iff s n).2 h), State.setSite_own]

/-- Site after site is changed, each by itself and by what no site changes. -/
theorem foldl_setSite (f : SiteId → Site → Site) (ns : List SiteId) (hd : ns.Nodup) :
    let t := ns.foldl (fun s n => s.setSite n (f n (s.site n))) s
    t = { s with sites := t.sites } ∧ ∀ n, t.site n = if n ∈ ns then f n (s.site n) else s.site n := by
  induction ns generalizing s with
  | nil => exact ⟨rfl, fun n => rfl⟩
  | cons x rest ih =>
    rw [List.nodup_cons] at hd
    obtain ⟨honly, hsite⟩ := ih (s.setSite x (f x (s.site x))) hd.2
    simp only [List.foldl_cons]
    refine ⟨honly, fun n => ?_⟩
    rw [hsite n]
    by_cases hx : n = x
    · subst hx
      rw [if_neg hd.1, if_pos (by simp), State.setSite_site_same]
    · rw [State.setSite_site_other s x _ n (Ne.symm hx)]
      simp [hx]

/-- Usability looks at no site, so all sites are judged as they stand at first. -/
theorem judgeAll_eq : judgeAll s = allSites.foldl (fun t n => t.setSite n ((t.site n).judged (s.usable n))) s := by
  have all : ∀ (ns : List SiteId) (t : State), t.fixture = s.fixture → t.lines = s.lines →
      ns.foldl judgeSite t = ns.foldl (fun t n => t.setSite n ((t.site n).judged (s.usable n))) t := by
    intro ns
    induction ns with
    | nil => exact fun _ _ _ => rfl
    | cons n rest ih =>
      intro t hf hl
      rw [List.foldl_cons, List.foldl_cons, judgeSite_eq, usable_of_parts hf hl n]
      exact ih _ hf hl
  exact all allSites s rfl rfl

theorem judgeAll_only : judgeAll s = { s with sites := (judgeAll s).sites } := by
  have h := (foldl_setSite s (fun n c => c.judged (s.usable n)) allSites (by decide)).1
  rw [← judgeAll_eq] at h
  exact h

theorem judgeAll_site (n : SiteId) : (judgeAll s).site n = (s.site n).judged (s.usable n) := by
  rw [judgeAll_eq, (foldl_setSite s (fun n c => c.judged (s.usable n)) allSites (by decide)).2 n, if_pos (mem_allSites n)]

/-! ### The filter of a line -/

theorem InputLine.due_iff (x : InputLine) (now : Time) :
    x.due now = true ↔ x.raw ≠ x.filtered ∧ x.filter.toNat * 1000 ≤ (now - x.lastChange).toNat := by
  simp [InputLine.due]

/-- The level at which a line is judged (R159). -/
theorem judgeLine_level (x : InputLine) (now : Time) : (if x.due now then x.raw else x.filtered) =
    if x.raw ≠ x.filtered ∧ x.filter.toNat * 1000 ≤ (now - x.lastChange).toNat then x.raw else x.filtered := by
  simp only [x.due_iff]

theorem judgeLine_lidBusy (l : LineId) (mayPress : Bool) (hl : l = 16) (hb : s.fixture.busy = true) :
    judgeLine l mayPress s = s := by
  simp only [judgeLine]
  exact if_pos ⟨hl, hb⟩

theorem judgeLine_same (l : LineId) (mayPress : Bool) (hl : l ≠ 16 ∨ s.fixture.busy = false)
    (level : Bool) (hlevel : (if (s.line l).due s.time then (s.line l).raw else (s.line l).filtered) = level)
    (ha : decide (level = (s.line l).polarity) = (s.line l).active) :
    judgeLine l mayPress s = s.setLine l { s.line l with filtered := level } := by
  have hne : ¬ (l = lidLine ∧ s.fixture.busy = true) := fun ⟨h1, h2⟩ => hl.elim (· h1) (by simp [h2])
  simp only [judgeLine, hlevel, if_neg hne, beq_eq_decide]
  exact if_pos ha

theorem judgeLine_changed (l : LineId) (mayPress : Bool) (hl : l ≠ 16 ∨ s.fixture.busy = false)
    (level : Bool) (hlevel : (if (s.line l).due s.time then (s.line l).raw else (s.line l).filtered) = level)
    (ha : decide (level = (s.line l).polarity) ≠ (s.line l).active) :
    judgeLine l mayPress s = acceptChange l level (decide (level = (s.line l).polarity)) mayPress s := by
  have hne : ¬ (l = lidLine ∧ s.fixture.busy = true) := fun ⟨h1, h2⟩ => hl.elim (· h1) (by simp [h2])
  simp only [judgeLine, hlevel, if_neg hne, beq_eq_decide]
  exact if_neg ha

theorem inputRawChange_changed (l : LineId) (level : Bool) (h : level ≠ (s.line l).raw) :
    let t := s.setLine l { s.line l with raw := level, lastChange := s.time }
    exec (.inputRawChange l level) s = .next
      (if level ≠ (s.line l).filtered ∧ (s.line l).filter = 0 then settle (judgeLine l true t) else t) := by
  have hdue : ({ s.line l with raw := level, lastChange := s.time } : InputLine).due s.time = true ↔
      level ≠ (s.line l).filtered ∧ (s.line l).filter = 0 := by
    rw [InputLine.due_iff]
    refine and_congr_right' ?_
    simp only [BitVec.sub_self]
    bv_omega
  show execInputRawChange l level s = _
  simp only [execInputRawChange, if_neg h, hdue]
  split <;> rfl

theorem inputRawChange_same (l : LineId) : exec (.inputRawChange l (s.line l).raw) s = .next s := by
  show execInputRawChange l (s.line l).raw s = _
  simp only [execInputRawChange, if_true]

/-! ### INPUTS_SET -/

/-- The three bytes of a line's settings. -/
def settingsBytes (x : Byte × Bool × EdgeSelect) : List Byte :=
  [x.1, if x.2.1 then 0 else 1, if x.2.2 = .press then 0 else 1]

theorem readLineSettings_bytes (x : Byte × Bool × EdgeSelect) :
    readLineSettings (settingsBytes x) = some ⟨x.1, x.2.1, x.2.2⟩ := by
  obtain ⟨filter, polarity, edge⟩ := x
  cases polarity <;> cases edge <;> rfl

/-- Three bytes whose second or third is above 1 name no settings. -/
theorem readLineSettings_none (a b c : Byte) (h : 1 < b.toNat ∨ 1 < c.toNat) : readLineSettings [a, b, c] = none := by
  rcases h with h | h
  · simp [readLineSettings, readFlag_none b h]
  · simp [readLineSettings, readFlag_none c h]

theorem inputsSet_answers {tag : Byte} {body : List Byte} {guard : State → Prop} {effect : State → State}
    (hl : body.length = 51) (hh : ∀ s, guard s → settle (match (chunks 3 17 body).mapM readLineSettings with
      | some xs => reply 0x2F tag .ok [] (rejudgeLines (replaceSettings xs s))
      | none => reply 0x2F tag .badValue [] s) = effect s) :
    Answers (.inputsSet tag body) ⟨0x2F, tag, body⟩ guard effect := by
  refine Answers.of settle _ (fun s => rfl) fun s hg => ?_
  rw [decide_eq_true hl, withLength_allowed]
  exact hh s hg

/-- The settings of all lines, in the order of their numbers. -/
theorem readSettings_bytes (xs : Vector (Byte × Bool × EdgeSelect) 17) :
    (chunks 3 17 (xs.toList.flatMap settingsBytes)).mapM readLineSettings =
      some (xs.toList.map fun x => ⟨x.1, x.2.1, x.2.2⟩) := by
  have hchunks := chunks_flatMap 3 settingsBytes xs.toList [] fun _ _ => rfl
  rw [List.append_nil, Vector.length_toList] at hchunks
  rw [hchunks]
  exact mapM_of_read settingsBytes _ readLineSettings xs.toList fun x _ => readLineSettings_bytes x

theorem replaceSettings_eq (xs : Vector (Byte × Bool × EdgeSelect) 17) :
    replaceSettings (xs.toList.map fun x => ⟨x.1, x.2.1, x.2.2⟩) s = { s with lines := .ofFn fun l =>
      { s.lines[l] with filter := xs[l].1, polarity := xs[l].2.1, edge := xs[l].2.2 } } := by
  rw [replaceSettings]
  congr 2
  funext l
  have hl : (xs.toList.map fun x : Byte × Bool × EdgeSelect => (⟨x.1, x.2.1, x.2.2⟩ : LineSettings))[l.val]? =
      some ⟨xs[l].1, xs[l].2.1, xs[l].2.2⟩ := by
    rw [List.getElem?_map, List.getElem?_eq_getElem (by simp)]
    simp
  rw [hl]

theorem settings_refused (body : List Byte) (hl : body.length = 51)
    (h : ∃ k < 51, k % 3 ≠ 0 ∧ 1 < (body.getD k 0).toNat) : (chunks 3 17 body).mapM readLineSettings = none := by
  obtain ⟨k, hk, hplace, hbad⟩ := h
  have hmem := mem_chunks 3 17 (k / 3) body (by omega)
  refine mapM_none_of_mem _ _ _ hmem ?_
  have h0 : 3 * (k / 3) + 2 < body.length := by omega
  have hthree : (body.drop (3 * (k / 3))).take 3 =
      [body.getD (3 * (k / 3)) 0, body.getD (3 * (k / 3) + 1) 0, body.getD (3 * (k / 3) + 2) 0] := by
    rw [List.drop_eq_getElem_cons (by omega), List.drop_eq_getElem_cons (by omega), List.drop_eq_getElem_cons (by omega)]
    simp only [List.take_succ_cons, List.take_zero, List.getD_eq_getElem?_getD, List.getElem?_eq_getElem h0,
      List.getElem?_eq_getElem (Nat.lt_of_succ_lt h0), List.getElem?_eq_getElem (Nat.lt_of_succ_lt (Nat.lt_of_succ_lt h0)),
      Option.getD_some]
  rw [hthree]
  have hcases : k = 3 * (k / 3) + 1 ∨ k = 3 * (k / 3) + 2 := by omega
  refine readLineSettings_none _ _ _ (hcases.imp (fun e => ?_) fun e => ?_) <;> rwa [← e]

/-- Settles O49: usability, the filter of a line and INPUTS_SET. -/
theorem linesAreFilteredAndUsabilityJudged : Obligations.LinesAreFilteredAndUsabilityJudged := by
  refine ⟨⟨fun n s => usable_iff s n, fun n s h => ?_, fun n s h => ?_, fun n s => ⟨?_, judgeAll_only s⟩⟩,
    ⟨fun l level s h => inputRawChange_changed s l level h, fun l s => inputRawChange_same s l, ?_⟩, ?_, ?_⟩
  · rw [judgeSite_eq, Site.judged, if_pos h]
  · rw [judgeSite_eq, Site.judged, if_neg (by rcases h with h | h | h <;> simp [h]), State.setSite_own]
  · rw [judgeAll_site, judgeSite_eq, State.setSite_site_same]
  · intro l mayPress s x level active
    exact ⟨judgeLine_lidBusy s l mayPress,
      fun hl ha => judgeLine_same s l mayPress hl level (judgeLine_level x s.time) ha,
      fun hl ha => judgeLine_changed s l mayPress hl level (judgeLine_level x s.time) ha⟩
  · intro tag xs body
    have hlen : body.length = 51 :=
      (length_flatMap_of_size 3 settingsBytes xs.toList fun _ _ => rfl).trans (by rw [Vector.length_toList])
    refine inputsSet_answers hlen fun s _ => ?_
    rw [show (chunks 3 17 body).mapM readLineSettings = _ from readSettings_bytes xs]
    simp only [replaceSettings_eq]
    rfl
  · intro tag body hl hbad
    refine inputsSet_answers hl fun s ha => ?_
    rw [settings_refused body hl hbad]
    exact settle_send s _ ha

end Sys2Proof.Machine
end

section
/-! SEAT and START changes that are due (O50; R3, R28, R160, R161). -/

namespace Sys2Proof.Machine

variable (s : State)

/-! ### A change that is due -/

/-- The timer of a line's pending change. -/
def InputLine.changeTimer (x : InputLine) : Timer := ⟨x.lastChange, x.filter.toNat * 1000⟩

theorem changeDue_idle (l : LineId)
    (h : (s.line l).raw = (s.line l).filtered ∨ s.reaches (s.line l).changeTimer = false) : changeDue l s = s := by
  rw [changeDue, InputLine.wait]
  by_cases hr : (s.line l).raw = (s.line l).filtered
  · rw [if_pos hr]
  · rw [if_neg hr]
    exact whenRun_behind s _ _ (h.resolve_left hr)

theorem changeDue_reached (l : LineId) (h : (s.line l).raw ≠ (s.line l).filtered)
    (hr : s.reaches (s.line l).changeTimer = true) :
    changeDue l s = settle (judgeLine l true (s.passTo (s.line l).changeTimer)) := by
  rw [changeDue, InputLine.wait, if_neg h]
  exact whenRun_reached s _ _ hr

theorem passTo_line (t : Timer) (l : LineId) : (s.passTo t).line l = s.line l := by rw [passTo_eq]; rfl

theorem passTo_site (t : Timer) (n : SiteId) : (s.passTo t).site n = s.site n := by rw [passTo_eq]; rfl

/-- A change that is due is judged at the raw level (R159). -/
theorem due_level (l : LineId) (h : (s.line l).raw ≠ (s.line l).filtered) :
    let u := s.passTo (s.line l).changeTimer
    (if (u.line l).due u.time then (u.line l).raw else (u.line l).filtered) = (s.line l).raw := by
  intro u
  have hline : u.line l = s.line l := passTo_line s _ l
  have hshort : (s.line l).changeTimer.duration < 4294967296 := by
    have := (s.line l).filter.isLt
    simp only [InputLine.changeTimer]
    omega
  rw [hline, if_pos ((InputLine.due_iff ..).2 ⟨h, passTo_runs s _ hshort⟩)]

/-- A change that leaves the state of its line as it is (log entry 14). -/
theorem changeDue_same (l : LineId) (hl : l ≠ 16) (h : (s.line l).raw ≠ (s.line l).filtered)
    (hr : s.reaches (s.line l).changeTimer = true)
    (ha : decide ((s.line l).raw = (s.line l).polarity) = (s.line l).active) : changeDue l s =
      settle ((s.passTo (s.line l).changeTimer).setLine l { s.line l with filtered := (s.line l).raw }) := by
  rw [changeDue_reached s l h hr, judgeLine_same _ l true (.inl hl) _ (due_level s l h) (by rwa [passTo_line]), passTo_line]

/-- A change of the state of a line is handed on. -/
theorem changeDue_changed (l : LineId) (hl : l ≠ 16) (h : (s.line l).raw ≠ (s.line l).filtered)
    (hr : s.reaches (s.line l).changeTimer = true)
    (ha : decide ((s.line l).raw = (s.line l).polarity) ≠ (s.line l).active) : changeDue l s =
      settle (acceptChange l (s.line l).raw (decide ((s.line l).raw = (s.line l).polarity)) true
        (s.passTo (s.line l).changeTimer)) := by
  rw [changeDue_reached s l h hr, judgeLine_changed _ l true (.inl hl) _ (due_level s l h) (by rwa [passTo_line]),
    passTo_line]

theorem seatChange_due (n : SiteId) : exec (.seatChange n) s = .next (changeDue (seatLine n) s) := rfl

theorem startChange_due (n : SiteId) : exec (.startChange n) s = .next (changeDue (startLine n) s) := rfl

/-! ### The lines of a site -/

theorem lineSite_seatLine (n : SiteId) : lineSite (seatLine n) = (0, some n) := by
  simp [lineSite, seatLine]

theorem lineSite_startLine (n : SiteId) : lineSite (startLine n) = (1, some n) := by
  simp [lineSite, startLine]

theorem seatLine_ne_lid (n : SiteId) : seatLine n ≠ 16 := by
  have := n.isLt
  simp only [seatLine, ne_eq, Fin.ext_iff]
  omega

theorem startLine_ne_lid (n : SiteId) : startLine n ≠ 16 := by
  have := n.isLt
  simp only [startLine, ne_eq, Fin.ext_iff]
  omega

theorem acceptChange_seat (n : SiteId) (filtered active mayPress : Bool) :
    acceptChange (seatLine n) filtered active mayPress s =
      seatEffect n active (s.setLine (seatLine n) ((s.line (seatLine n)).accepted filtered active)) := by
  simp only [acceptChange, lineSite_seatLine]

theorem acceptChange_start (n : SiteId) (filtered active : Bool) :
    acceptChange (startLine n) filtered active true s =
      startEffect n active ((s.line (startLine n)).isPress active)
        (s.setLine (startLine n) ((s.line (startLine n)).accepted filtered active)) := by
  simp only [acceptChange, lineSite_startLine, Bool.true_and]

/-! ### Notices -/

theorem inputNotice_seat (n : SiteId) (active : Bool) : inputNotice (seatLine n) active .notStart s = notice 0x84
    ([Config.code .lineKind 0, BitVec.ofNat 8 n, Config.code .lineState (if active then 0 else 1),
      0xFF, 0xFF, 0xFF, 0xFF] ++ le32 s.time.toNat) s := by
  unfold inputNotice
  rw [lineSite_seatLine]
  cases active <;> rfl

/-- The last four bytes that say what a START change did as a press (R28). -/
def pressBytes : Press → List Byte
  | .notStart => [0xFF, 0xFF, 0xFF, 0xFF]
  | .noPress => [0, 0xFF, 0xFF, 0xFF]
  | .refused => [1, 1, 0xFF, 0xFF]
  | .began run => [1, 0] ++ le16 run.toNat

theorem inputNotice_start (n : SiteId) (active : Bool) (press : Press) :
    inputNotice (startLine n) active press s = notice 0x84
      ([Config.code .lineKind 1, BitVec.ofNat 8 n, Config.code .lineState (if active then 2 else 3)] ++ pressBytes press ++
        le32 s.time.toNat) s := by
  unfold inputNotice
  rw [lineSite_startLine]
  cases active <;> cases press <;> rfl

/-! ### Start presses -/

theorem InputLine.isPress_iff (x : InputLine) (active : Bool) : x.isPress active = true ↔
    (x.edge = .press ∧ active = true) ∨ (x.edge = .release ∧ active = false) := by
  unfold InputLine.isPress
  cases x.edge <;> simp

theorem pressBegins_iff (n : SiteId) : s.pressBegins n = true ↔ (s.site n).startEnable = true ∧
    s.safe = ⟨false, false, false⟩ ∧ (s.site n).state = .idle ∧ s.runCount < s.free := by
  have hsafe : s.safe.holds = false ↔ s.safe = ⟨false, false, false⟩ := by
    rw [← Bool.not_eq_true, safe_holds_iff, ne_eq, not_not]
  simp only [State.pressBegins, Bool.and_eq_true, Bool.not_eq_true', hsafe, beq_iff_eq, decide_eq_true_eq, and_assoc]

/-- Neither the passing of time nor the line itself decides whether a press begins a run. -/
theorem pressBegins_passTo (t : Timer) (l : LineId) (x : InputLine) (n : SiteId) :
    ((s.passTo t).setLine l x).pressBegins n = s.pressBegins n := by
  rw [passTo_eq]
  rfl

theorem startEffect_noPress (n : SiteId) (active : Bool) :
    startEffect n active false s = inputNotice (startLine n) active .noPress s := rfl

theorem startEffect_refused (n : SiteId) (active : Bool) (h : s.pressBegins n = false) :
    startEffect n active true s = inputNotice (startLine n) active .refused s := by simp [startEffect, h]

theorem startEffect_begins (n : SiteId) (active : Bool) (h : s.pressBegins n = true) :
    startEffect n active true s =
      inputNotice (startLine n) active (.began (if (s.site n).runNumber = 65535 then 1 else (s.site n).runNumber + 1))
        (beginRun n (s.site n).entryStep false s) := by
  simp only [startEffect, h, if_true, beginRun_site]
  rfl

/-- Settles O50: a change that is due is judged at the raw level, and its line's effect follows. -/
theorem seatAndStartChangesAreHandedOn : Obligations.SeatAndStartChangesAreHandedOn := by
  refine ⟨fun n s => ?_, fun n s => ?_⟩
  · intro x u active reached
    refine ⟨fun h => congrArg (.next · : State → Answer) (changeDue_idle s _ h),
      fun h hr ha => congrArg (.next · : State → Answer) (changeDue_same s _ (seatLine_ne_lid n) h hr ha), fun h hr ha => ?_⟩
    rw [seatChange_due, changeDue_changed s _ (seatLine_ne_lid n) h hr ha, acceptChange_seat, passTo_line, seatEffect,
      inputNotice_seat]
    rfl
  · intro x u active v report pressed begins reached
    have hbegins : v.pressBegins n = true ↔ begins := by
      rw [show v.pressBegins n = s.pressBegins n from pressBegins_passTo s _ _ _ n]
      exact pressBegins_iff s n
    have hsite : v.site n = s.site n := passTo_site s _ n
    have handed (h : x.raw ≠ x.filtered) (hr : reached = true) (ha : active ≠ x.active) :
        exec (.startChange n) s = .next (settle (startEffect n active (x.isPress active) v)) := by
      rw [startChange_due, changeDue_changed s _ (startLine_ne_lid n) h hr ha, acceptChange_start, passTo_line]
      rfl
    have hpress : x.isPress active = true ↔ pressed := x.isPress_iff active
    refine ⟨fun h => congrArg (.next · : State → Answer) (changeDue_idle s _ h),
      fun h hr ha => congrArg (.next · : State → Answer) (changeDue_same s _ (startLine_ne_lid n) h hr ha), fun h hr ha hp => ?_,
      fun h hr ha hp hb => ?_, fun h hr ha hp hb => ?_⟩
    · rw [handed h hr ha, Bool.eq_false_iff.2 (mt hpress.1 hp), startEffect_noPress, inputNotice_start]
      rfl
    · rw [handed h hr ha, hpress.2 hp, startEffect_refused v n active (Bool.eq_false_iff.2 (mt hbegins.1 hb)),
        inputNotice_start]
      rfl
    · rw [handed h hr ha, hpress.2 hp, startEffect_begins v n active (hbegins.2 hb), inputNotice_start,
        hsite]
      rfl

end Sys2Proof.Machine
end

section
/-! The effect of a soft reset on every block (O5; R34, R75, R97, R120, R145, R157, R177, R186, R202, R203). -/

namespace Sys2Proof.Machine

variable (s : State)

/-! ### The ports -/

/-- A port whose exchange is dropped and whose counters are cleared (R120). -/
def Port.dropped (r : InstrRecord) (p : Port) : Port :=
  { p with
    source := abandonedSource r p
    state := if p.state.out then p.state else .idle
    awaited := if p.state = .offline then p.awaited else none
    user := none
    outstanding := if p.state = .offline then p.outstanding else none
    respTimer := none, spacing := none, sentConfig := none, sourceOffFor := none, quietReport := none
    counters := .clear, failures := 0 }

/-- A port as it puts OUTPUT OFF on its line. -/
def Port.sendsOff (p : Port) : Port :=
  { p with seq := p.seq + 1, rxBytes := [], lastSent := messageBytes ⟨0x03, p.seq + 1, [0]⟩ }

/-- OUTPUT OFF where the instrument is source-capable: awaited in service, sent and forgotten OFFLINE (R120). -/
def Port.turnedOff (now : Time) (r : InstrRecord) (p : Port) : Port :=
  if r.sourceCapable = false then p
  else if p.state = .offline then { p.sendsOff with source := if p.source = .on then .unknown else p.source }
  else if p.state = .idle then
    { p.sendsOff with
      state := .command, awaited := some .outputOff, user := some .softReset, outstanding := some (p.seq + 1)
      respTimer := some ⟨now, r.responseTimeout.toNat * 1000⟩ }
  else p

/-- A port at a soft reset. -/
def Port.softReset (now : Time) (r : InstrRecord) (p : Port) : Port := (p.dropped r).turnedOff now r

theorem dropExchange_clear (i : InstrId) :
    (dropExchange i s).setPort i { (dropExchange i s).port i with counters := .clear, failures := 0 } =
      s.setPort i ((s.port i).dropped (s.record i)) := by
  simp only [dropExchange, outputAbandoned_eq, State.setPort_setPort, State.setPort_port_same]
  rfl

theorem resetSourceOff_eq (i : InstrId) :
    resetSourceOff i s = s.setPort i ((s.port i).turnedOff s.time (s.record i)) := by
  cases hc : (s.record i).sourceCapable with
  | false => simp [resetSourceOff, Port.turnedOff, hc]
  | true =>
    cases hp : (s.port i).state with
    | offline =>
      simp only [resetSourceOff, Port.turnedOff, Port.sendsOff, hc, hp, transmit, State.setPort_setPort,
        State.setPort_port_same, if_true, reduceCtorEq, if_false]
      rfl
    | idle =>
      simp only [resetSourceOff, Port.turnedOff, hc, hp, transmit, sendOutput, sendAwaiting, State.setPort_setPort,
        State.setPort_port_same, if_true, reduceCtorEq, if_false]
      rfl
    | disabled | command | triggered | fetching => simp [resetSourceOff, Port.turnedOff, hc, hp]

theorem resetPort_eq (i : InstrId) : resetPort s i = s.setPort i ((s.port i).softReset s.time (s.record i)) := by
  simp only [resetPort, dropExchange_clear, resetSourceOff_eq, State.setPort_port_same, State.setPort_setPort]
  rfl

theorem resetPorts_only : PortsOnly s (allInsts.foldl resetPort s) :=
  .foldl _ _ _ fun t i => by rw [resetPort_eq]; exact .setPort ..

theorem resetPorts_port (i : InstrId) :
    (allInsts.foldl resetPort s).port i = (s.port i).softReset s.time (s.record i) :=
  foldl_port s resetPort Port.softReset (fun t i => by rw [resetPort_eq, State.setPort_port_same])
    (fun t i j h => by rw [resetPort_eq, State.setPort_port_other _ _ _ _ h])
    (fun t i => by rw [resetPort_eq]; exact .setPort ..) allInsts (by decide) i (mem_allInsts i)

/-! ### What the handlers of the reset leave -/

/-- A change of the wear counts and of the notices alone. -/
structure WearOnly (s t : State) : Prop where
  only : t = { s with link := t.link, wear := t.wear }
  rxBytes : t.link.rxBytes = s.link.rxBytes
  rx : t.link.rx = s.link.rx
  inProgress : t.link.inProgress = s.link.inProgress
  limit : t.link.limit = s.link.limit
  watchdog : t.link.watchdog = s.link.watchdog
  rateCode : t.link.rateCode = s.link.rateCode

theorem WearOnly.refl : WearOnly s s := ⟨rfl, rfl, rfl, rfl, rfl, rfl, rfl⟩

variable {s} in
theorem WearOnly.trans {t u : State} (h : WearOnly s t) (k : WearOnly t u) : WearOnly s u :=
  ⟨by rw [k.only, h.only], k.rxBytes.trans h.rxBytes, k.rx.trans h.rx, k.inProgress.trans h.inProgress,
    k.limit.trans h.limit, k.watchdog.trans h.watchdog, k.rateCode.trans h.rateCode⟩

theorem setWear_wearOnly (k : CardId) (place count : Nat) : WearOnly s (setWear k place count s) :=
  ⟨rfl, rfl, rfl, rfl, rfl, rfl, rfl⟩

theorem notice_wearOnly (kind : Byte) (body : List Byte) : WearOnly s (notice kind body s) := by
  obtain ⟨l, h, hrx, hbytes, -, hprog, -, hlimit, hdog, hrate, -⟩ := notice_shape s kind body
  rw [h]
  exact ⟨rfl, hbytes, hrx, hprog, hlimit, hdog, hrate⟩

theorem countWear_wearOnly (k : CardId) (place : Nat) : WearOnly s (countWear k s place) := by
  simp only [countWear]
  split
  · exact .refl s
  · split
    · exact (setWear_wearOnly ..).trans (notice_wearOnly ..)
    · exact setWear_wearOnly ..

theorem countNoted_wearOnly : WearOnly s (countNoted s) :=
  foldl_keeps s (WearOnly s) _ _ (fun t k h => h.trans
    (foldl_keeps t (WearOnly t) _ _ (fun u p h => h.trans (countWear_wearOnly u k p)) (.refl t))) (.refl s)

/-- An abandoned pass hands over its wear when it stands after its latch, and nothing otherwise (R97). -/
theorem abandonPass_wearOnly : WearOnly s (abandonPass s) := by
  unfold abandonPass
  split
  · exact countNoted_wearOnly s
  · exact .refl s

theorem abandonPass_other (h : s.chain.phase ≠ .verify) : abandonPass s = s := if_neg h

/-- The chain at a soft reset, its routes gone (R75, R97, R203). -/
def Chain.softReset (c : Chain) : Chain :=
  { c with
    dirty := true, cards := c.cards.map Card.softReset, passDue := false, snapshot := .allOpen, verifySet := 0
    noted := .allOpen, cursor := 0, phase := .discovery }

/-- The state of a soft reset before the lines, the safe causes and the fixture memory are looked at: the link, the wear
counts and the ports as they stand in `t`. -/
def ResetTo (s t : State) : Prop := t = { s with
  link := t.link, wear := t.wear, ports := t.ports, routes := .empty, nodes := .empty, image := .allOpen
  chain := s.chain.softReset, sites := s.sites.map Site.softReset, leases := .replicate 6 ⟨none, []⟩, queue := .empty
  orders := .replicate 8 [], agenda := [] }

/-- What follows the routes and the pass: the chain, the leases, the sites, the queue and the counters. -/
def resetRest (s : State) : State :=
  clearLinkGroups { resetSites (resetLeases (resetChain s)) with queue := .empty }

theorem softResetTaken_eq : softResetTaken s =
    resetFixture (resetRest (abandonPass (resetRoutes (allInsts.foldl resetPort (resetLink s))))) := rfl

/-- The link at a soft reset: what is cleared before the pass is abandoned, and the groups cleared after it (R202). -/
structure LinkReset (s t : State) : Prop where
  rxBytes : t.link.rxBytes = []
  rx : t.link.rx = []
  inProgress : t.link.inProgress = none
  limit : t.link.limit = s.link.limit
  watchdog : t.link.watchdog = limitTimer s.time s.link.limit.toNat
  rateCode : t.link.rateCode = s.link.rateCode
  watchdogs : t.link.watchdogs = .clear
  counters : t.link.counters = .clear

variable {s} in
theorem resetRest_resetTo {p w : State} (hp : PortsOnly (resetLink s) p) (hw : WearOnly (resetRoutes p) w) :
    ResetTo s (resetRest w) ∧ LinkReset s (resetRest w) ∧ (resetRest w).ports = p.ports := by
  have honly := hw.only
  unfold PortsOnly at hp
  have hlink : (resetRoutes p).link = (resetLink s).link := by rw [hp]; rfl
  refine ⟨?_, ⟨?_, ?_, ?_, ?_, ?_, ?_, rfl, rfl⟩, ?_⟩
  · unfold ResetTo
    rw [honly, hp]
    rfl
  · rw [show (resetRest w).link.rxBytes = _ from hw.rxBytes, hlink]
    rfl
  · rw [show (resetRest w).link.rx = _ from hw.rx, hlink]
    rfl
  · rw [show (resetRest w).link.inProgress = _ from hw.inProgress, hlink]
    rfl
  · rw [show (resetRest w).link.limit = _ from hw.limit, hlink]
    rfl
  · rw [show (resetRest w).link.watchdog = _ from hw.watchdog, hlink]
    rfl
  · rw [show (resetRest w).link.rateCode = _ from hw.rateCode, hlink]
    rfl
  · rw [honly]
    rfl

/-- Without a pass after its latch the queue of the link is empty and no wear is counted. -/
theorem resetRest_quiet {p : State} (hp : PortsOnly (resetLink s) p) :
    (resetRest (resetRoutes p)).link.tx = [] ∧ (resetRest (resetRoutes p)).wear = s.wear := by
  unfold PortsOnly at hp
  rw [hp]
  exact ⟨rfl, rfl⟩

/-! ### The lines, the safe causes and the fixture memory -/

/-- LID as its filtered level and its polarity give it (R177). -/
def State.lidLevel (s : State) : Bool := decide ((s.line lidLine).filtered = (s.line lidLine).polarity)

/-- The fixture memory at a soft reset: a transfer is stopped, and with the lid closed a load begins (R177, R203). -/
def Fixture.softReset (f : Fixture) (closed : Bool) : Fixture :=
  if closed then
    { state := .loading, held := none, loadStep := some .header, loadCause := none, headerBytes := [], busy := true
      owner := .monitor, lastCommand := some (.loadHeader, 0, 9), error := none, transfer := none
      sent := (if f.busy then [.stop] else []) ++ [.start, .byte 0xB8, .byte 0, .byte 0, .start, .byte 0xB9] }
  else
    { state := .noIdentity, held := none, loadStep := none, loadCause := none, headerBytes := [], busy := false
      owner := .monitor, lastCommand := none, error := none, transfer := none, sent := if f.busy then [.stop] else [] }

theorem Fixture.softReset_inForce (f : Fixture) (closed : Bool) : (f.softReset closed).inForce = false := by
  cases closed <;> rfl

theorem clearLatches_line (l : LineId) :
    (clearLatches s).line l = { s.line l with latchActive := false, latchInactive := false } := by
  simp [clearLatches, State.line]

theorem readLid_line (l : LineId) : (readLid (clearLatches s)).line l = { s.line l with
    active := if l = lidLine then s.lidLevel else (s.line l).active
    latchActive := false, latchInactive := false } := by
  by_cases hl : l = lidLine
  · subst hl
    rw [readLid, State.setLine_line_same, clearLatches_line, if_pos rfl, State.lidLevel, ← beq_eq_decide]
  · rw [readLid, State.setLine_line_other _ _ _ _ (Ne.symm hl), clearLatches_line, if_neg hl]

/-- The lid looked at over a monitor at rest, with no route in use. -/
theorem lidAtReset_rest (h : s.routes.entries = []) (stopped : List BusItem) :
    let u := lidAtReset { s with fixture := .powerOn, safe := ⟨false, false, false⟩ }
    u.setFixture { u.fixture with sent := stopped ++ u.fixture.sent } = { s with
      safe := ⟨!s.lidClosed, false, false⟩
      fixture :=
        if s.lidClosed then { Fixture.powerOn with
          state := .loading, loadStep := some .header, busy := true, lastCommand := some (.loadHeader, 0, 9)
          sent := stopped ++ readItems 0 }
        else { Fixture.powerOn with sent := stopped } } := by
  have hlid : ({ s with fixture := .powerOn, safe := ⟨false, false, false⟩ } : State).lidClosed = s.lidClosed := rfl
  cases hc : s.lidClosed with
  | true =>
    simp only [lidAtReset, hlid, hc, if_true, beginLoad, h, List.isEmpty_nil]
    rfl
  | false =>
    have hsent : stopped ++ Fixture.powerOn.sent = stopped := List.append_nil stopped
    simp only [lidAtReset, hlid, hc, Bool.false_eq_true, if_false, hsent, Bool.not_false]
    rfl

theorem resetFixture_eq (h : s.routes.entries = []) : resetFixture s = judgeAll { readLid (clearLatches s) with
    safe := ⟨!s.lidLevel, false, false⟩, fixture := s.fixture.softReset s.lidLevel } := by
  have hlid : (readLid (clearLatches s)).lidClosed = s.lidLevel := by
    rw [State.lidClosed, readLid_line, if_pos rfl]
  rw [resetFixture]
  refine congrArg judgeAll ((lidAtReset_rest (readLid (clearLatches s)) h _).trans ?_)
  rw [hlid]
  rfl

/-- What a soft reset leaves (`t`), with the state `v` reached before the lines are looked at. -/
theorem softReset_shape : ∃ v, ResetTo s v ∧ LinkReset s v ∧
    (∀ i, v.port i = (s.port i).softReset s.time (s.record i)) ∧
    (s.chain.phase ≠ .verify → v.link.tx = [] ∧ v.wear = s.wear) ∧
    softResetTaken s = judgeAll { readLid (clearLatches v) with
      safe := ⟨!s.lidLevel, false, false⟩, fixture := s.fixture.softReset s.lidLevel } := by
  have hp := resetPorts_only (resetLink s)
  have hport := resetPorts_port (resetLink s)
  rw [softResetTaken_eq]
  generalize allInsts.foldl resetPort (resetLink s) = p at hp hport
  obtain ⟨hto, hlink, hports⟩ := resetRest_resetTo hp (abandonPass_wearOnly (resetRoutes p))
  have hphase : p.chain.phase = s.chain.phase := by rw [hp]; rfl
  have hquiet : s.chain.phase ≠ .verify → (resetRest (abandonPass (resetRoutes p))).link.tx = [] ∧
      (resetRest (abandonPass (resetRoutes p))).wear = s.wear := fun h => by
    rw [abandonPass_other (resetRoutes p) (by rw [← hphase] at h; exact h)]
    exact resetRest_quiet s hp
  generalize resetRest (abandonPass (resetRoutes p)) = v at hto hlink hports hquiet
  refine ⟨v, hto, hlink, fun i => ?_, hquiet, ?_⟩
  · rw [State.port, hports]
    exact hport i
  · have hroutes : v.routes.entries = [] := by rw [hto]; rfl
    have hlines : v.lidLevel = s.lidLevel := by rw [hto]; rfl
    have hfixture : v.fixture = s.fixture := by rw [hto]
    rw [resetFixture_eq v hroutes, hlines, hfixture]

theorem Site.judged_unseated (c : Site) (h : c.state = .unseated) : c.judged false = c := by
  rw [Site.judged, if_pos (.inl h), if_neg (by decide), ← h]

theorem usable_inForce (n : SiteId) (h : s.fixture.inForce = false) : s.usable n = false := by
  simp [State.usable, h]

/-- The state `t` that a soft reset makes of `s`. -/
structure SoftResetTo (s t : State) : Prop where
  only : t = { s with
    link := t.link, wear := t.wear, ports := t.ports, sites := t.sites, routes := .empty, nodes := .empty
    image := .allOpen, chain := s.chain.softReset, leases := .replicate 6 ⟨none, []⟩, queue := .empty
    orders := .replicate 8 [], agenda := [], lines := (readLid (clearLatches s)).lines
    safe := ⟨!s.lidLevel, false, false⟩, fixture := s.fixture.softReset s.lidLevel }
  site : ∀ n, t.site n = (s.site n).softReset
  port : ∀ i, t.port i = (s.port i).softReset s.time (s.record i)
  link : LinkReset s t
  quiet : s.chain.phase ≠ .verify → t.link.tx = [] ∧ t.wear = s.wear

theorem softResetTaken_to : SoftResetTo s (softResetTaken s) := by
  obtain ⟨v, hv, hlink, hport, hquiet, ht⟩ := softReset_shape s
  have honly := judgeAll_only { readLid (clearLatches v) with
    safe := ⟨!s.lidLevel, false, false⟩, fixture := s.fixture.softReset s.lidLevel }
  have hsite := fun n => judgeAll_site { readLid (clearLatches v) with
    safe := ⟨!s.lidLevel, false, false⟩, fixture := s.fixture.softReset s.lidLevel } n
  rw [← ht] at honly hsite
  generalize softResetTaken s = t at honly hsite
  have htlink : t.link = v.link := by rw [honly]; rfl
  have htports : t.ports = v.ports := by rw [honly]; rfl
  have htwear : t.wear = v.wear := by rw [honly]; rfl
  refine ⟨?_, fun n => ?_, fun i => ?_, ?_, fun h => ?_⟩
  · unfold ResetTo at hv
    rw [htlink, htports, htwear]
    rw [hv] at honly
    exact honly
  · have hunseated : (readLid (clearLatches v)).site n = (s.site n).softReset := by
      rw [hv]
      exact site_resetSites s n
    rw [hsite n, usable_inForce _ n (Fixture.softReset_inForce ..)]
    exact (congrArg (Site.judged · false) hunseated).trans (Site.judged_unseated _ rfl)
  · rw [State.port, htports]
    exact hport i
  · obtain ⟨hbytes, hrx, hprog, hlimit, hdog, hrate, hdogs, hcounters⟩ := hlink
    rw [← htlink] at hbytes hrx hprog hlimit hdog hrate hdogs hcounters
    exact ⟨hbytes, hrx, hprog, hlimit, hdog, hrate, hdogs, hcounters⟩
  · rw [htlink, htwear]
    exact hquiet h

/-! ### The reset block by block -/

theorem Port.softReset_kept (now : Time) (r : InstrRecord) (p : Port) :
    let q := p.softReset now r
    q.counters = .clear ∧ q.failures = 0 ∧ q.lastConfig = p.lastConfig ∧ q.lastIdent = p.lastIdent ∧
      q.lastNak = p.lastNak ∧ q.filteredRdy = p.filteredRdy ∧ q.spacing = none ∧ q.sentConfig = none ∧
      q.sourceOffFor = none ∧ q.quietReport = none := by
  unfold Port.softReset Port.turnedOff
  split
  · exact ⟨rfl, rfl, rfl, rfl, rfl, rfl, rfl, rfl, rfl, rfl⟩
  · split
    · exact ⟨rfl, rfl, rfl, rfl, rfl, rfl, rfl, rfl, rfl, rfl⟩
    · split <;> exact ⟨rfl, rfl, rfl, rfl, rfl, rfl, rfl, rfl, rfl, rfl⟩

theorem Port.softReset_disabled (now : Time) (r : InstrRecord) (p : Port) (h : p.state = .disabled) :
    p.softReset now r = p.dropped r := by
  cases hc : r.sourceCapable <;> simp [Port.softReset, Port.turnedOff, hc, Port.dropped, h, PortState.out]

theorem Port.softReset_incapable (now : Time) (r : InstrRecord) (p : Port) (h : r.sourceCapable = false) :
    p.softReset now r = p.dropped r := if_pos h

theorem Port.softReset_offline (now : Time) (r : InstrRecord) (p : Port) (hc : r.sourceCapable = true)
    (h : p.state = .offline) : p.softReset now r = { (p.dropped r).sendsOff with
      source := if abandonedSource r p = .on then .unknown else abandonedSource r p } := by
  simp [Port.softReset, Port.turnedOff, hc, Port.dropped, h, PortState.out]

theorem Port.softReset_service (now : Time) (r : InstrRecord) (p : Port) (hc : r.sourceCapable = true)
    (hd : p.state ≠ .disabled) (ho : p.state ≠ .offline) : p.softReset now r = { (p.dropped r).sendsOff with
      state := .command, awaited := some .outputOff, user := some .softReset, outstanding := some (p.seq + 1)
      respTimer := some ⟨now, r.responseTimeout.toNat * 1000⟩ } := by
  simp [Port.softReset, Port.turnedOff, hc, Port.dropped, hd, ho, PortState.out]

theorem Port.softReset_out (now : Time) (r : InstrRecord) (p : Port) (h : p.state = .disabled ∨ p.state = .offline) :
    let q := p.softReset now r
    q.state = p.state ∧ q.probeTimer = p.probeTimer ∧ q.user = none ∧ q.respTimer = none := by
  have hdropped : (p.dropped r).state = p.state := by rcases h with h | h <;> simp [Port.dropped, h, PortState.out]
  cases hc : r.sourceCapable with
  | false =>
    rw [Port.softReset_incapable now r p hc]
    exact ⟨hdropped, rfl, rfl, rfl⟩
  | true =>
    rcases h with h | h
    · rw [Port.softReset_disabled now r p h]
      exact ⟨hdropped, rfl, rfl, rfl⟩
    · rw [Port.softReset_offline now r p hc h]
      exact ⟨hdropped, rfl, rfl, rfl⟩

theorem Port.softReset_awaited (now : Time) (r : InstrRecord) (p : Port) (h : p.state = .offline) :
    (p.softReset now r).awaited = p.awaited ∧ (p.softReset now r).outstanding = p.outstanding := by
  cases hc : r.sourceCapable with
  | false =>
    rw [Port.softReset_incapable now r p hc]
    exact ⟨if_pos h, if_pos h⟩
  | true =>
    rw [Port.softReset_offline now r p hc h]
    exact ⟨if_pos h, if_pos h⟩

theorem Port.softReset_inService (now : Time) (r : InstrRecord) (p : Port) (h : p.state ≠ .disabled ∧ p.state ≠ .offline) :
    let q := p.softReset now r
    if r.sourceCapable then
      q.state = .command ∧ q.awaited = some .outputOff ∧ q.user = some .softReset ∧ q.outstanding = some (p.seq + 1) ∧
        q.respTimer = some ⟨now, r.responseTimeout.toNat * 1000⟩
    else q.state = .idle ∧ q.awaited = none ∧ q.user = none ∧ q.outstanding = none ∧ q.respTimer = none := by
  obtain ⟨hd, ho⟩ := h
  cases hc : r.sourceCapable with
  | false =>
    simp [Port.softReset_incapable now r p hc, Port.dropped, PortState.out, hd, ho]
  | true =>
    rw [Port.softReset_service now r p hc hd ho]
    exact ⟨rfl, rfl, rfl, rfl, rfl⟩

theorem Port.softReset_source (now : Time) (r : InstrRecord) (p : Port) : (p.softReset now r).source =
    if r.sourceCapable = true ∧ p.state = .offline ∧ abandonedSource r p = .on then .unknown else abandonedSource r p := by
  cases hc : r.sourceCapable with
  | false =>
    rw [Port.softReset_incapable now r p hc]
    simp [Port.dropped]
  | true =>
    by_cases hd : p.state = .disabled
    · rw [Port.softReset_disabled now r p hd]
      simp [Port.dropped, hd]
    · by_cases ho : p.state = .offline
      · rw [Port.softReset_offline now r p hc ho]
        simp [ho]
      · rw [Port.softReset_service now r p hc hd ho]
        simp [ho, Port.sendsOff, Port.dropped]

theorem Port.softReset_sent (now : Time) (r : InstrRecord) (p : Port) :
    let q := p.softReset now r
    if r.sourceCapable = true ∧ p.state ≠ .disabled then
      q.seq = p.seq + 1 ∧ q.rxBytes = [] ∧ q.lastSent = messageBytes ⟨0x03, p.seq + 1, [0]⟩
    else q.seq = p.seq ∧ q.rxBytes = p.rxBytes ∧ q.lastSent = p.lastSent := by
  cases hc : r.sourceCapable with
  | false =>
    rw [Port.softReset_incapable now r p hc]
    exact ⟨rfl, rfl, rfl⟩
  | true =>
    by_cases hd : p.state = .disabled
    · rw [Port.softReset_disabled now r p hd, if_neg (by simp [hd])]
      exact ⟨rfl, rfl, rfl⟩
    · rw [if_pos ⟨rfl, hd⟩]
      by_cases ho : p.state = .offline
      · rw [Port.softReset_offline now r p hc ho]
        exact ⟨rfl, rfl, rfl⟩
      · rw [Port.softReset_service now r p hc hd ho]
        exact ⟨rfl, rfl, rfl⟩

/-- Settles O5, block by block from `softResetTaken_to`. -/
theorem softResetActsOnEveryBlock : Obligations.SoftResetActsOnEveryBlock := by
  intro s hprog
  have hexec : exec .softResetEffect s = .next (softResetTaken s) := by
    show execSoftResetEffect s = _
    rcases hprog with h | h <;> simp only [execSoftResetEffect, h]
  have h := softResetTaken_to s
  refine ⟨softResetTaken s, hexec, ?_⟩
  generalize softResetTaken s = t at h
  have ports := h.port
  have honly := h.only
  refine ⟨?_, ⟨h.link.rxBytes, h.link.rx, h.link.inProgress, h.link.limit, h.link.watchdog, h.link.rateCode,
    h.link.watchdogs, h.link.counters⟩, h.quiet, ?_, h.site, fun i => ?_, fun k => ?_, ?_, ?_, fun l => ?_, ?_, ?_,
    fun n => ?_, ?_⟩
  · rw [honly]
    exact ⟨rfl, rfl, rfl, rfl, rfl, rfl⟩
  · rw [honly]
    exact ⟨rfl, rfl, fun k => by simp [Matrix.allOpen]⟩
  · have hlease : t.lease i = ⟨none, []⟩ := by
      rw [honly]
      simp [State.lease]
    obtain ⟨hcounters, hfailures, hconfig, hident, hnak, hrdy, hspacing, hsent, hfor, hreport⟩ :=
      (s.port i).softReset_kept s.time (s.record i)
    rw [h.port i]
    exact ⟨hlease, hcounters, hfailures, hconfig, hident, hnak, hrdy, hspacing, hsent, hfor, hreport,
      Port.softReset_out s.time (s.record i) (s.port i), Port.softReset_awaited s.time (s.record i) (s.port i),
      Port.softReset_inService s.time (s.record i) (s.port i), Port.softReset_source s.time (s.record i) (s.port i),
      Port.softReset_sent s.time (s.record i) (s.port i)⟩
  · rw [honly]
    simp [Chain.softReset, State.card, Card.softReset, Matrix.allOpen]
  · rw [honly]
    exact ⟨rfl, rfl, rfl, rfl, rfl, rfl, rfl⟩
  · rw [honly]
    rfl
  · rw [honly]
    refine (readLid_line s l).trans ?_
    by_cases hl : l = lidLine
    · subst hl
      rfl
    · simp only [if_neg hl]
  · rw [honly]
    simp [State.lidLevel]
  · rw [honly]
    simp only [Fixture.softReset, State.lidLevel, decide_eq_true_eq]
  · rw [honly]
    simp
  · rw [honly]

end Sys2Proof.Machine
end

section
/-! Leases: ACQUIRE, the handover and its grant, RELEASE (O23; R35, R36, R38, R40). -/

namespace Sys2Proof.Machine

variable (s : State)

/-! ### ACQUIRE -/

theorem State.holds_iff (n : SiteId) (i : InstrId) : s.holds n i = true ↔ (s.lease i).holder = some n := by
  simp [State.holds]

theorem holdsHigher_iff (n : SiteId) (i : InstrId) : allInsts.any (fun j => decide (i < j) && s.holds n j) = true ↔
    ∃ j : InstrId, i < j ∧ (s.lease j).holder = some n := by
  simp [List.any_eq_true, mem_allInsts, State.holds_iff]

theorem acquireStep_held (n : SiteId) (i : InstrId) (h : (s.lease i).holder = some n) :
    acquireStep n i s = finishStep n false none s :=
  if_pos ((s.holds_iff n i).2 h)

/-- A site that holds a higher instrument may not ask for a lower one (R36). -/
theorem acquireStep_order (n : SiteId) (i : InstrId) (h : (s.lease i).holder ≠ some n)
    (hj : ∃ j : InstrId, i < j ∧ (s.lease j).holder = some n) : acquireStep n i s = stepError n .order s := by
  rw [acquireStep, if_neg (mt (s.holds_iff n i).1 h), if_pos ((holdsHigher_iff s n i).2 hj)]

/-- Past the order check the holder decides: none, and the lease is taken; another, and the site waits behind it (R36). -/
theorem acquireStep_ordered (n : SiteId) (i : InstrId) (h : (s.lease i).holder ≠ some n)
    (hj : ¬ ∃ j : InstrId, i < j ∧ (s.lease j).holder = some n) : acquireStep n i s =
      if (s.lease i).holder = none then finishStep n false none (s.setLease i { s.lease i with holder := some n })
      else waitFor n .lease (s.setLease i { s.lease i with queue := (s.lease i).queue ++ [n] }) := by
  rw [acquireStep, if_neg (mt (s.holds_iff n i).1 h), if_neg (mt (holdsHigher_iff s n i).1 hj)]
  cases (s.lease i).holder with
  | none => rw [if_pos rfl]
  | some m => rw [if_neg (Option.some_ne_none m)]

/-! ### The handover and its grant -/

theorem handover_eq (i : InstrId) : handover i s = s.setLease i
    (match (s.lease i).queue with
     | [] => ⟨none, []⟩
     | head :: rest => ⟨some head, rest⟩) := by
  cases h : (s.lease i).queue with
  | nil => exact handover_empty s i h
  | cons head rest => exact handover_head s i head rest h

theorem grantEvent_waiting (n : SiteId) (i : InstrId) (r : StepRecord) (hp : (s.site n).phase = .wait .lease)
    (ht : (s.site n).taking = some r) (hk : r.kind = .acquire i) (hh : (s.lease i).holder = some n) :
    exec (.grantEvent n i) s = .next (settle (finishStep n false none (resumeStep n s))) := by
  obtain ⟨tag, next, onFail, kind⟩ := r
  obtain rfl : kind = .acquire i := hk
  show execGrantEvent n i s = _
  simp only [execGrantEvent, hp, ht, (s.holds_iff n i).2 hh, and_self, if_true]

/-- A grant to a site that does not wait for a lease, or does not hold the instrument, has no effect. -/
theorem grantEvent_other (n : SiteId) (i : InstrId)
    (h : (s.site n).phase ≠ .wait .lease ∨ (s.lease i).holder ≠ some n) : exec (.grantEvent n i) s = .next s := by
  show execGrantEvent n i s = .next s
  unfold execGrantEvent
  split
  · rename_i hp _
    exact if_neg fun ⟨_, hh⟩ => h.elim (absurd hp) (absurd ((s.holds_iff n i).1 hh))
  · rfl

/-! ### RELEASE -/

/-- The site's entries on the instrument's buses that a RELEASE has to break: those not BREAKING yet (R38). -/
def State.liveOn (n : SiteId) (i : InstrId) : List EntryId :=
  (s.entriesOn n i).filter fun e => (s.route e).any LiveRoute.live

theorem mem_liveOn (n : SiteId) (i : InstrId) (e : EntryId) :
    e ∈ s.liveOn n i ↔ e ∈ s.entriesOn n i ∧ ∃ r, s.route e = some r ∧ r.state ≠ .breaking := by
  simp [State.liveOn, Option.any_eq_true, LiveRoute.live_iff]

theorem guardPasses_iff (i : InstrId) : s.guardPasses i = true ↔ (s.port i).source = .off := by
  simp [State.guardPasses]

theorem releaseStep_notHeld (n : SiteId) (i : InstrId) (h : (s.lease i).holder ≠ some n) :
    releaseStep n i s = finishStep n false none s := by
  have hn : s.holds n i = false := Bool.eq_false_iff.2 (mt (s.holds_iff n i).1 h)
  rw [releaseStep, hn]
  rfl

/-- RELEASE of an instrument that the site holds: the guard, then the handover or the breaks (R38). -/
theorem releaseStep_held (n : SiteId) (i : InstrId) (h : (s.lease i).holder = some n) : releaseStep n i s =
    if s.liveOn n i ≠ [] ∧ (s.port i).source ≠ .off then stepError n .hot s
    else if s.entriesOn n i = [] then finishStep n false none (handover i s)
    else waitFor n .release (breakEntries (s.liveOn n i) s) := by
  have holds : ¬ (!s.holds n i) = true := by simp [(s.holds_iff n i).2 h]
  have guarded : (!(s.liveOn n i).isEmpty && !s.guardPasses i) = true ↔ s.liveOn n i ≠ [] ∧ (s.port i).source ≠ .off := by
    simp [← guardPasses_iff]
  rw [releaseStep, if_neg holds]
  exact if_congr guarded rfl (if_congr List.isEmpty_iff rfl rfl)

theorem releaseStep_noRoute (n : SiteId) (i : InstrId) (h : (s.lease i).holder = some n) (he : s.entriesOn n i = []) :
    releaseStep n i s = finishStep n false none (handover i s) := by
  have hl : s.liveOn n i = [] := by rw [State.liveOn, he, List.filter_nil]
  rw [releaseStep_held s n i h, if_neg fun hot => hot.1 hl, if_pos he]

theorem releaseStep_hot (n : SiteId) (i : InstrId) (h : (s.lease i).holder = some n)
    (hl : ∃ e ∈ s.entriesOn n i, ∃ r, s.route e = some r ∧ r.state ≠ .breaking) (hs : (s.port i).source ≠ .off) :
    releaseStep n i s = stepError n .hot s := by
  obtain ⟨e, he, hlive⟩ := hl
  have hne : s.liveOn n i ≠ [] := List.ne_nil_of_mem ((mem_liveOn s n i e).2 ⟨he, hlive⟩)
  rw [releaseStep_held s n i h, if_pos ⟨hne, hs⟩]

theorem releaseStep_breaks (n : SiteId) (i : InstrId) (h : (s.lease i).holder = some n) (he : s.entriesOn n i ≠ [])
    (hs : (s.port i).source = .off) : releaseStep n i s = waitFor n .release (breakEntries (s.liveOn n i) s) := by
  rw [releaseStep_held s n i h, if_neg fun hot => hot.2 hs, if_neg he]

/-- Settles O23, step by step from the equations of `acquireStep`, `handover` and `releaseStep`. -/
theorem leasesAreTakenGrantedAndReleased : Obligations.LeasesAreTakenGrantedAndReleased := by
  refine ⟨⟨fun n i s => ?_, fun i s => handover_eq s i, fun n i r s hp ht hk hh => grantEvent_waiting s n i r hp ht hk hh,
    fun n i s h => grantEvent_other s n i h⟩, fun n i s => ⟨releaseStep_notHeld s n i, releaseStep_noRoute s n i,
    releaseStep_hot s n i, releaseStep_breaks s n i⟩⟩
  split
  · exact acquireStep_held s n i ‹_›
  · split
    · exact acquireStep_order s n i ‹_› ‹_›
    · exact acquireStep_ordered s n i ‹_› ‹_›

end Sys2Proof.Machine
end

section
/-! INSTR_SET: the record as it is read, the check of its claims, and the port that it sets going or stops (O26; R45, R46,
R104, R105, R113). -/

namespace Sys2Proof.Machine

variable (s : State)

/-! ### Instrument records -/

theorem readInst_none (b : Byte) (h : 5 < b.toNat) : readInst b = none := by simp [readInst]; omega

theorem readFlag_ofBool (b : Bool) : readFlag (if b then 1 else 0) = some b := by cases b <;> rfl

/-- A claim takes one byte, which is read back as written (R45, R194). -/
theorem busBytes_read (b : Option BusId) : ∃ x, busBytes b = [x] ∧ readBus x = some b := by
  cases b with
  | none => exact ⟨0xFF, rfl, rfl⟩
  | some k =>
    refine ⟨BitVec.ofNat 8 k, rfl, ?_⟩
    have hk : (BitVec.ofNat 8 k.val).toNat = k.val := toNat_ofNat8 k.val (by omega)
    have hne : BitVec.ofNat 8 k.val ≠ 0xFF := fun h => by
      have := hk.symm.trans (congrArg BitVec.toNat h)
      simp only [BitVec.reduceToNat] at this
      omega
    simp only [readBus, hne, if_false, hk, k.isLt, dite_true]

/-- A record with its response timeout and trigger width in range is read back as written. -/
theorem instrRecordBytes_read (r : InstrRecord) (ht : r.responseTimeout ≠ 0) (hw : r.triggerWidth ≠ 0) :
    (instrRecordBytes r).length = 10 ∧ readInstrRecord (instrRecordBytes r) = some r := by
  obtain ⟨hi, hhi, readHi⟩ := busBytes_read r.hi
  obtain ⟨lo, hlo, readLo⟩ := busBytes_read r.lo
  obtain ⟨shi, hshi, readShi⟩ := busBytes_read r.shi
  obtain ⟨slo, hslo, readSlo⟩ := busBytes_read r.slo
  have timeout : read16 (BitVec.ofNat 8 r.responseTimeout.toNat) (BitVec.ofNat 8 (r.responseTimeout.toNat / 256)) ≠ 0 := by
    rw [read16_le16 _ r.responseTimeout.isLt]
    exact fun h => ht (BitVec.eq_of_toNat_eq h)
  have bytes : instrRecordBytes r = [if r.enable then 1 else 0, hi, lo, shi, slo, BitVec.ofNat 8 r.responseTimeout.toNat,
      BitVec.ofNat 8 (r.responseTimeout.toNat / 256), r.triggerWidth, r.rdyFilter, if r.sourceCapable then 1 else 0] := by
    rw [instrRecordBytes, hhi, hlo, hshi, hslo]
    rfl
  rw [bytes]
  refine ⟨rfl, ?_⟩
  simp only [readInstrRecord, readFlag_ofBool, readHi, readLo, readShi, readSlo, ofNat_read16_le16, timeout, hw, or_self,
    if_false, Option.bind_eq_bind, Option.bind_some]

/-- The check of INSTR_SET on the claims of a record: no bus twice, and none of another record's (R46). -/
theorem claimsSound_eq_true_iff (i : InstrId) (r : InstrRecord) : claimsSound s i r = true ↔
    r.buses.Nodup ∧ ∀ j : InstrId, j ≠ i → ∀ b ∈ r.buses, b ∉ (s.record j).buses := by
  simp only [claimsSound, Bool.and_eq_true, decide_eq_true_eq, List.all_eq_true, Bool.not_eq_true',
    List.contains_eq_mem, decide_eq_false_iff_not, mem_claimedByOthers, not_exists, not_and]
  exact and_congr_right' ⟨fun h j hj b hb => h b hb j hj, fun h b hb j hj => h j hj b hb⟩

theorem sourceAfterSet_eq (old new : InstrRecord) (x : SourceState) : sourceAfterSet old new x =
    if new.sourceCapable = false then .off else if old.sourceCapable then x else .unknown := by
  simp only [sourceAfterSet, Bool.not_eq_true']

/-! ### The port of a replaced record -/

/-- The block with the record of an instrument replaced, its source state following the new one (R46, R113). -/
def State.setRecord (i : InstrId) (r : InstrRecord) : State :=
  State.setPort { s with records := s.records.set i r } i
    { s.port i with source := sourceAfterSet (s.record i) r (s.port i).source }

theorem State.setRecord_port (i : InstrId) (r : InstrRecord) : (s.setRecord i r).port i =
    { s.port i with source := sourceAfterSet (s.record i) r (s.port i).source } := State.setPort_port_same ..

theorem State.setRecord_record (i : InstrId) (r : InstrRecord) : (s.setRecord i r).record i = r :=
  (State.record_setRecords s i i r).trans (if_pos rfl)

theorem State.setRecord_setPort (i : InstrId) (r : InstrRecord) (p : Port) :
    (s.setRecord i r).setPort i p = State.setPort { s with records := s.records.set i r } i p :=
  State.setPort_setPort ..

/-- A bring-up: HELLO leaves on the port, which awaits its answer (R102, R105). -/
def Port.helloSent (now : Time) (r : InstrRecord) (p : Port) : Port :=
  { p with
    state := .command, awaited := some .hello, user := some .bringUp, seq := p.seq + 1, outstanding := some (p.seq + 1)
    rxBytes := [], respTimer := some ⟨now, r.responseTimeout.toNat * 1000⟩
    lastSent := messageBytes ⟨0x01, p.seq + 1, []⟩ }

/-- A port as it goes to DISABLED: its exchange, its timers and its spacing wait are dropped (R104). -/
def Port.stopped (p : Port) : Port :=
  { p with
    state := .disabled, awaited := none, user := none, outstanding := none, respTimer := none, probeTimer := none
    spacing := none, sentConfig := none, rxBytes := [] }

theorem sendHello_eq (i : InstrId) : sendHello i s = s.setPort i ((s.port i).helloSent s.time (s.record i)) := by
  simp only [sendHello, sendAwaiting, transmit, State.setPort_port_same, State.setPort_setPort]
  rfl

theorem disablePort_eq (i : InstrId) : disablePort i s =
    let t := portNotice i .disabled (s.setPort i (s.port i).stopped)
    if (s.port i).state = .command then portFreed i t else t := rfl

theorem replaceRecord_eq (i : InstrId) (r : InstrRecord) : replaceRecord i r s =
    if r.enable then
      if (s.port i).state = .disabled then sendHello i (s.setRecord i r) else s.setRecord i r
    else if (s.port i).state = .disabled then s.setRecord i r
    else disablePort i (s.setRecord i r) := by
  have hstate : ((s.setRecord i r).port i).state = (s.port i).state := by rw [State.setRecord_port]
  rw [← hstate]
  rfl

/-- A record that leaves its port enabled or disabled as it was touches the source state alone. -/
theorem replaceRecord_same (i : InstrId) (r : InstrRecord) (h : r.enable = true ↔ (s.port i).state ≠ .disabled) :
    replaceRecord i r s = s.setRecord i r := by
  rw [replaceRecord_eq]
  split
  · exact if_neg (h.1 ‹_›)
  · exact if_pos (not_not.1 (mt h.2 ‹_›))

theorem replaceRecord_enables (i : InstrId) (r : InstrRecord) (he : r.enable = true) (hd : (s.port i).state = .disabled) :
    replaceRecord i r s = sendHello i (s.setRecord i r) := by
  rw [replaceRecord_eq, if_pos he, if_pos hd]

theorem replaceRecord_disables (i : InstrId) (r : InstrRecord) (he : r.enable = false) (hd : (s.port i).state ≠ .disabled) :
    replaceRecord i r s = disablePort i (s.setRecord i r) := by
  rw [replaceRecord_eq, if_neg (by simp [he]), if_neg hd]

/-! ### The request -/

/-- What INSTR_SET does with a record in range: the check of the holder, then that of the claims (R46). -/
def setInstrument (tag : Byte) (i : InstrId) (r : InstrRecord) : State :=
  if (s.lease i).holder.isSome then reply 0x0E tag .state [] s
  else if !claimsSound s i r then reply 0x0E tag .badValue [] s
  else reply 0x0E tag .ok [] (replaceRecord i r s)

theorem setInstrument_held (tag : Byte) (i : InstrId) (r : InstrRecord) (h : (s.lease i).holder ≠ none) :
    setInstrument s tag i r = send ⟨0x4E, tag, [0x04]⟩ s := if_pos (Option.isSome_iff_ne_none.2 h)

theorem setInstrument_claimed (tag : Byte) (i : InstrId) (r : InstrRecord) (h : (s.lease i).holder = none)
    (hc : ¬ claimsSound s i r = true) : setInstrument s tag i r = send ⟨0x4E, tag, [0x03]⟩ s := by
  rw [setInstrument, if_neg (by simp [h]), if_pos (by simpa using hc)]
  rfl

theorem setInstrument_accepted (tag : Byte) (i : InstrId) (r : InstrRecord) (h : (s.lease i).holder = none)
    (hc : claimsSound s i r = true) : setInstrument s tag i r = send ⟨0x4E, tag, [0x00]⟩ (replaceRecord i r s) := by
  rw [setInstrument, if_neg (by simp [h]), if_neg (by simp [hc])]
  rfl

theorem instrSet_answers {tag : Byte} {i : InstrId} {r : InstrRecord} {guard : State → Prop} {effect : State → State}
    (ht : r.responseTimeout ≠ 0) (hw : r.triggerWidth ≠ 0)
    (hh : ∀ s, guard s → settle (setInstrument s tag i r) = effect s) :
    Answers (.instrSet tag (BitVec.ofNat 8 i :: instrRecordBytes r))
      ⟨0x0E, tag, BitVec.ofNat 8 i :: instrRecordBytes r⟩ guard effect := by
  obtain ⟨hlen, hread⟩ := instrRecordBytes_read r ht hw
  refine Answers.of settle _ (fun s => rfl) fun s hg => ?_
  rw [decide_eq_true (by rw [List.length_cons, hlen]), withLength_allowed]
  simp only [readInst_ofNat, hread]
  exact hh s hg

theorem instrSet_refuses_fields (tag inst : Byte) (fields : List Byte) (hlen : fields.length = 10)
    (h : 5 < inst.toNat ∨ readInstrRecord fields = none) :
    Refuses (.instrSet tag (inst :: fields)) ⟨0x0E, tag, inst :: fields⟩ (fun s => s.agenda = []) 0x03 := by
  refine Answers.of settle _ (fun s => rfl) fun s ha => ?_
  refine Eq.trans (congrArg settle ?_) (settle_send s _ ha)
  rw [decide_eq_true (by rw [List.length_cons, hlen]), withLength_allowed]
  rcases h with h | h
  · simp only [readInst_none inst h]
    rfl
  · simp only [h]
    cases readInst inst <;> rfl

/-- Settles O26: the accepted records by what they do to the port, then the refusals in their order. -/
theorem instrumentRecordsAreSet : Obligations.InstrumentRecordsAreSet := by
  refine ⟨fun tag i r ht hw => ?_, instrSet_refuses_fields⟩
  refine ⟨instrSet_answers ht hw fun s ⟨ha, hh, hs, hport⟩ => ?_, instrSet_answers ht hw fun s ⟨ha, hh, hs, he, hd⟩ => ?_,
    instrSet_answers ht hw fun s ⟨hh, hs, he, hd⟩ => ?_, instrSet_answers ht hw fun s ⟨ha, hh⟩ => ?_,
    instrSet_answers ht hw fun s ⟨ha, hh, hs⟩ => ?_⟩
  · rw [setInstrument_accepted s tag i r hh ((claimsSound_eq_true_iff s i r).2 hs), replaceRecord_same s i r hport,
      settle_send (s.setRecord i r) _ ha, State.setRecord, sourceAfterSet_eq]
  · rw [setInstrument_accepted s tag i r hh ((claimsSound_eq_true_iff s i r).2 hs), replaceRecord_enables s i r he hd,
      settle_send (sendHello i (s.setRecord i r)) _ ha, sendHello_eq, State.setRecord_setPort, State.setRecord_port,
      State.setRecord_record, sourceAfterSet_eq]
    rfl
  · rw [setInstrument_accepted s tag i r hh ((claimsSound_eq_true_iff s i r).2 hs), replaceRecord_disables s i r he hd,
      disablePort_eq, State.setRecord_setPort, State.setRecord_port, sourceAfterSet_eq]
    rfl
  · rw [setInstrument_held s tag i r hh]
    exact settle_send s _ ha
  · rw [setInstrument_claimed s tag i r hh (mt (claimsSound_eq_true_iff s i r).1 hs)]
    exact settle_send s _ ha

end Sys2Proof.Machine
end

section
/-! What keeps the node map, the live routes and the commanded image in agreement (R49, R50, R54, R58, R65, R67): the five ways
in which an operation may touch the parts that `RoutesSound` speaks of, and the operations that do not touch them. -/

namespace Sys2Proof.Machine

variable {s t : State}

/-! ### Reading the tables -/

theorem Table.get_put_entry {α : Type} (m : Table α) (e f : EntryId) (v : α) :
    (m.put e.val v).get f.val = if f = e then some v else m.get f.val := by
  by_cases h : f = e
  · rw [if_pos h, h, Table.get_put_same]
  · rw [if_neg h, Table.get_put_other _ _ _ _ fun he => h (Fin.ext he)]

theorem Table.get_foldl_put {α : Type} (ps : List Nat) (c : α) (m : Table α) (a : Nat) :
    (ps.foldl (fun t p => t.put p c) m).get a = if a ∈ ps then some c else m.get a := by
  induction ps generalizing m with
  | nil => simp
  | cons p rest ih =>
    rw [List.foldl_cons, ih]
    by_cases hr : a ∈ rest
    · simp [hr]
    · by_cases hp : a = p
      · simp [hp]
      · simp [hr, hp, Table.get_put_other m p a c hp]

theorem Table.get_foldl_erase {α : Type} (ps : List Nat) (m : Table α) (a : Nat) :
    (ps.foldl Table.erase m).get a = if a ∈ ps then none else m.get a := by
  induction ps generalizing m with
  | nil => simp
  | cons p rest ih =>
    rw [List.foldl_cons, ih, Table.get_erase]
    by_cases hr : a ∈ rest
    · simp [hr]
    · by_cases hp : a = p <;> simp [hr, hp]

theorem union_getLsbD (a b : Matrix) (k : CardId) (place : Nat) : ((a.union b)[k]).getLsbD place = true ↔
    (a[k]).getLsbD place = true ∨ (b[k]).getLsbD place = true := by
  have hk : (a.union b)[k] = a[k] ||| b[k] := by simp [Matrix.union]
  rw [hk, BitVec.getLsbD_or, Bool.or_eq_true]

theorem crosspoints_at (r : LiveRoute) (k : CardId) (place : Nat) : (r.crosspoints[k]).getLsbD place = true ↔
    ∃ p ∈ r.nodes, cardOf p = k ∧ placeOf r.bus p = place := by
  rw [show r.crosspoints[k] = routeBits r.bus r.nodes k by simp [LiveRoute.crosspoints], routeBits_getLsbD]

/-- A crosspoint of the matrix names its node and its bus. -/
theorem crosspoint_injective {b c : BusId} {p q : Nat} (hp : p < 512) (hq : q < 512) (hk : cardOf p = cardOf q)
    (hplace : placeOf b p = placeOf c q) : b = c ∧ p = q := by
  simp only [cardOf, Fin.mk.injEq] at hk
  simp only [placeOf] at hplace
  have hb : b.val = c.val := by omega
  exact ⟨Fin.ext hb, by omega⟩

/-- A node belongs to one entry in use. -/
theorem RoutesSound.owner (h : RoutesSound s) {e f : EntryId} {r q : LiveRoute} {p : Nat} (hr : s.route e = some r)
    (hq : s.route f = some q) (hp : p ∈ r.nodes) (hp' : p ∈ q.nodes) : e = f := by
  have claim := (h.claimed e r hr p hp).2.symm.trans (h.claimed f q hq p hp').2
  exact congrArg NodeClaim.entry (Option.some.inj claim)

/-! ### What an operation may do to the routes -/

/-- An identity in force has its windows inside the matrix (R164). -/
def Fixture.windowsFit (f : Fixture) : Prop :=
  f.inForce = true → ∀ h ws crc, f.held = some ⟨h, some (ws, crc)⟩ → ∀ w ∈ ws, w.base + w.size ≤ 512

/-- The fixture part changes, its identity in force inside the matrix. -/
theorem RoutesSound.setFixture (h : RoutesSound s) (f : Fixture) (hf : f.windowsFit) : RoutesSound (s.setFixture f) :=
  ⟨h.claimed, h.image, hf⟩

/-- A change of a fixture that leaves the identity in force, or puts none in force. -/
theorem RoutesSound.windowsFit (h : RoutesSound s) {f : Fixture}
    (hf : f.inForce = true → s.fixture.inForce = true ∧ f.held = s.fixture.held) : f.windowsFit := by
  intro hforce
  obtain ⟨old, hheld⟩ := hf hforce
  rw [hheld]
  exact h.windows old

/-- The windows in force lie within the nodes of the matrix, and so does every node that one translates (R54). -/
theorem RoutesSound.window_le (h : RoutesSound s) (n : SiteId) : (s.window n).base + (s.window n).size ≤ 512 := by
  unfold State.window
  split
  · rename_i hforce
    split
    · rename_i hd ws crc hheld
      rw [List.getD_eq_getElem?_getD]
      cases hw : ws[n.val]? with
      | none => simp
      | some w => exact h.windows hforce hd ws crc hheld w (List.mem_of_getElem? hw)
    · simp
  · simp

theorem RoutesSound.translate_lt (h : RoutesSound s) {n : SiteId} {relative nodes : List Nat}
    (ht : translate (s.window n) relative = some nodes) : ∀ p ∈ nodes, p < 512 := by
  have := h.window_le n
  simp only [translate, Option.ite_none_right_eq_some, List.all_eq_true, decide_eq_true_eq, Option.some.injEq] at ht
  obtain ⟨hall, rfl⟩ := ht
  intro p hp
  obtain ⟨a, ha, rfl⟩ := List.mem_map.1 hp
  have := hall a ha
  omega

theorem route_put (e f : EntryId) (r : LiveRoute) :
    (s.setRoutes (s.routes.put e.val r)).route f = if f = e then some r else s.route f :=
  Table.get_put_entry s.routes e f r

/-- An entry is rewritten with its nodes and its bus, and stays live or not. -/
theorem RoutesSound.rewrite (h : RoutesSound s) (e : EntryId) {r q : LiveRoute} (hr : s.route e = some r)
    (hn : q.nodes = r.nodes) (hb : q.bus = r.bus) (hl : q.live = r.live) :
    RoutesSound (s.setRoutes (s.routes.put e.val q)) where
  claimed f x hx := by
    rw [route_put] at hx
    split at hx
    · rename_i hf
      obtain rfl := Option.some.inj hx
      rw [hn, hb, hf]
      exact h.claimed e r hr
    · exact h.claimed f x hx
  image k place := by
    refine (h.image k place).trans ⟨?_, ?_⟩
    · rintro ⟨f, x, p, hx, live, hp, hk, hplace⟩
      by_cases hf : f = e
      · rw [hf, hr] at hx
        obtain rfl := Option.some.inj hx
        exact ⟨e, q, p, by rw [route_put, if_pos rfl], hl ▸ live, hn ▸ hp, hk, hb ▸ hplace⟩
      · exact ⟨f, x, p, by rw [route_put, if_neg hf, hx], live, hp, hk, hplace⟩
    · rintro ⟨f, x, p, hx, live, hp, hk, hplace⟩
      rw [route_put] at hx
      split at hx
      · obtain rfl := Option.some.inj hx
        exact ⟨e, r, p, hr, hl ▸ live, hn ▸ hp, hk, hb ▸ hplace⟩
      · exact ⟨f, x, p, hx, live, hp, hk, hplace⟩
  windows := h.windows

/-- A live entry goes to BREAKING: its crosspoints leave the image, and none of them is one of another entry (R65). -/
theorem breakEntry_routes (e : EntryId) (h : RoutesSound s) : RoutesSound (breakEntry s e) := by
  have broke := breakEntry_broke s e
  refine ⟨fun f x hx => ?_, fun k place => ?_, ?_⟩
  · rw [broke.only]
    rw [broke.route] at hx
    split at hx
    · obtain ⟨r, hr, rfl⟩ := Option.map_eq_some_iff.1 hx
      have parts : r.broken.nodes = r.nodes ∧ r.broken.bus = r.bus := by
        unfold LiveRoute.broken
        split <;> exact ⟨rfl, rfl⟩
      rw [parts.1, parts.2]
      exact h.claimed f r hr
    · exact h.claimed f x hx
  · rw [broke.image, h.image]
    constructor
    · rintro ⟨⟨f, x, p, hx, live, hp, hk, hplace⟩, hnot⟩
      have hf : f ∉ [e] := fun hf =>
        hnot ⟨f, hf, x, hx, live, (crosspoints_at x k place).2 ⟨p, hp, hk, hplace⟩⟩
      have hx' := (broke.live_iff f x).2 ⟨hf, hx, live⟩
      exact ⟨f, x, p, hx'.1, live, hp, hk, hplace⟩
    · rintro ⟨f, x, p, hx, live, hp, hk, hplace⟩
      obtain ⟨hf, hx, -⟩ := (broke.live_iff f x).1 ⟨hx, live⟩
      refine ⟨⟨f, x, p, hx, live, hp, hk, hplace⟩, ?_⟩
      rintro ⟨g, hg, r, hr, -, hbit⟩
      obtain ⟨q, hq, hqk, hqplace⟩ := (crosspoints_at r k place).1 hbit
      obtain ⟨-, rfl⟩ := crosspoint_injective (h.claimed g r hr q hq).1 (h.claimed f x hx p hp).1 (hqk.trans hk.symm)
        (hqplace.trans hplace.symm)
      exact hf (h.owner hr hx hq hp ▸ hg)
  · rw [broke.only]
    exact h.windows

/-- A route in a free entry on free nodes of the matrix: the nodes become its own, its crosspoints join the image (R58). -/
theorem RoutesSound.create (h : RoutesSound s) (e : EntryId) (r : LiveRoute) (he : s.route e = none) (hl : r.live = true)
    (hfree : ∀ p ∈ r.nodes, p < 512 ∧ s.nodeState p = none) : RoutesSound { s with
      routes := s.routes.put e.val r
      nodes := r.nodes.foldl (fun t p => t.put p ⟨r.bus, e⟩) s.nodes
      image := s.image.union r.crosspoints } where
  claimed f x hx p hp := by
    rw [Table.get_foldl_put]
    change (s.routes.put e.val r).get f.val = some x at hx
    rw [Table.get_put_entry] at hx
    split at hx
    · rename_i hf
      obtain rfl := Option.some.inj hx
      exact ⟨(hfree p hp).1, by rw [if_pos hp, hf]⟩
    · obtain ⟨hlt, hclaim⟩ := h.claimed f x hx p hp
      refine ⟨hlt, ?_⟩
      have hnot : p ∉ r.nodes := fun hp' => by
        have hnone := (hfree p hp').2
        rw [State.nodeState, hclaim, Option.bind_some, show s.route f = some x from hx] at hnone
        cases hnone
      rw [if_neg hnot, hclaim]
  image k place := by
    have hroute : ∀ f, State.route { s with
        routes := s.routes.put e.val r
        nodes := r.nodes.foldl (fun t p => t.put p ⟨r.bus, e⟩) s.nodes
        image := s.image.union r.crosspoints } f = if f = e then some r else s.route f :=
      fun f => Table.get_put_entry s.routes e f r
    refine (union_getLsbD s.image r.crosspoints k place).trans ?_
    rw [h.image, crosspoints_at]
    simp only [hroute]
    constructor
    · rintro (⟨f, x, p, hx, hrest⟩ | ⟨p, hp, hk, hplace⟩)
      · have hf : f ≠ e := by
          rintro rfl
          rw [he] at hx
          cases hx
        exact ⟨f, x, p, by rw [if_neg hf, hx], hrest⟩
      · exact ⟨e, r, p, if_pos rfl, hl, hp, hk, hplace⟩
    · rintro ⟨f, x, p, hx, live, hp, hk, hplace⟩
      split at hx
      · obtain rfl := Option.some.inj hx
        exact .inr ⟨p, hp, hk, hplace⟩
      · exact .inl ⟨f, x, p, hx, live, hp, hk, hplace⟩
  windows := h.windows

/-- An entry that is not in the image goes, and its nodes with it (R67). -/
theorem freeRoute_routes (e : EntryId) (r : LiveRoute) (h : RoutesSound s) (hr : s.route e = some r) (hl : r.live = false) :
    RoutesSound (freeRoute e r s) := by
  have hroute : ∀ f, (freeRoute e r s).route f = if f = e then none else s.route f := fun f => by
    refine (Table.get_erase s.routes e.val f.val).trans ?_
    simp only [Fin.ext_iff]
    rfl
  refine ⟨fun f x hx p hp => ?_, fun k place => ?_, h.windows⟩
  · rw [hroute] at hx
    split at hx
    · cases hx
    · rename_i hf
      obtain ⟨hlt, hclaim⟩ := h.claimed f x hx p hp
      refine ⟨hlt, (Table.get_foldl_erase r.nodes s.nodes p).trans ?_⟩
      rw [if_neg fun hp' => hf (h.owner hx hr hp hp'), hclaim]
  · refine (h.image k place).trans ⟨?_, ?_⟩
    · rintro ⟨f, x, p, hx, live, hrest⟩
      have hf : f ≠ e := by
        rintro rfl
        rw [hr] at hx
        obtain rfl := Option.some.inj hx
        rw [hl] at live
        cases live
      exact ⟨f, x, p, by rw [hroute, if_neg hf, hx], live, hrest⟩
    · rintro ⟨f, x, p, hx, hrest⟩
      rw [hroute] at hx
      split at hx
      · cases hx
      · exact ⟨f, x, p, hx, hrest⟩

end Sys2Proof.Machine
end

section
/-! The operations of the blocks keep the routes sound, in the order in which the model defines them: those that touch no route,
the breaking and the creation of routes, the ends of steps, posts, the phases of a teardown and the twelve step kinds. -/

namespace Sys2Proof.Machine

variable {s t : State}

/-! ### Changes of other parts -/

/-- A change of parts that `RoutesSound` does not speak of. -/
theorem RoutesSound.other {time link steps routeDefs limits cal sites leases records ports chain wear queue
    lines safe orders agenda freeIndex pending} (h : RoutesSound s) : RoutesSound { s with
      time := time, link := link, steps := steps, routeDefs := routeDefs, limits := limits, cal := cal, sites := sites
      leases := leases, records := records, ports := ports, chain := chain, wear := wear, queue := queue, lines := lines
      safe := safe, orders := orders, agenda := agenda, freeIndex := freeIndex, pending := pending } :=
  ⟨h.claimed, h.image, h.windows⟩

theorem RoutesSound.setSite {n : SiteId} {c : Site} (h : RoutesSound s) : RoutesSound (s.setSite n c) := h.other

theorem RoutesSound.setPort {i : InstrId} {p : Port} (h : RoutesSound s) : RoutesSound (s.setPort i p) := h.other

theorem RoutesSound.setLease {i : InstrId} {l : Lease} (h : RoutesSound s) : RoutesSound (s.setLease i l) := h.other

theorem RoutesSound.setLink {l : Link} (h : RoutesSound s) : RoutesSound (s.setLink l) := h.other

theorem RoutesSound.setLine {l : LineId} {x : InputLine} (h : RoutesSound s) : RoutesSound (s.setLine l x) := h.other

theorem RoutesSound.setChain {c : Chain} (h : RoutesSound s) : RoutesSound (s.setChain c) := h.other

theorem RoutesSound.setCard {k : CardId} {c : Card} (h : RoutesSound s) : RoutesSound (s.setCard k c) := h.other

/-- The fixture part changes and the identity held does not; none comes into force by it. -/
theorem RoutesSound.sameIdentity (h : RoutesSound s) {f : Fixture} (hf : f.inForce = true → s.fixture.inForce = true)
    (hh : f.held = s.fixture.held) : RoutesSound (s.setFixture f) :=
  h.setFixture f (h.windowsFit fun hforce => ⟨hf hforce, hh⟩)

/-- The fixture part changes and leaves no identity in force. -/
theorem RoutesSound.noIdentity (h : RoutesSound s) {f : Fixture} (hf : f.inForce = false) :
    RoutesSound (s.setFixture f) :=
  h.setFixture f (h.windowsFit fun hforce => by simp [hf] at hforce)

theorem RoutesSound.ite {c : Prop} [Decidable c] (ht : c → RoutesSound s) (hu : ¬c → RoutesSound t) :
    RoutesSound (if c then s else t) := by
  split
  · exact ht ‹_›
  · exact hu ‹_›

/-- What one operation keeps sound, a fold keeps sound. -/
theorem RoutesSound.foldl {α : Type} {f : State → α → State} (hone : ∀ s a, RoutesSound s → RoutesSound (f s a))
    (h : RoutesSound s) {xs : List α} : RoutesSound (xs.foldl f s) :=
  foldl_keeps s RoutesSound f xs hone h

/-! ### The link, safe causes, usability, the chain -/

theorem notice_routes {kind : Byte} {body : List Byte} (h : RoutesSound s) : RoutesSound (notice kind body s) := by
  rw [notice_only]
  exact h.other

theorem safeAdd_routes {c : SafeCause} (h : RoutesSound s) : RoutesSound (safeAdd c s) := by
  have told : RoutesSound (safeNotice c true { s with safe := s.safe.assign true c }) := notice_routes h.other
  exact .ite (fun _ => h) fun _ => .ite (fun _ => told) fun _ => told.other

theorem safeRemove_routes {c : SafeCause} (h : RoutesSound s) : RoutesSound (safeRemove c s) :=
  .ite (fun _ => notice_routes h.other) fun _ => h

theorem judgeSite_routes {n : SiteId} (h : RoutesSound s) : RoutesSound (judgeSite s n) :=
  .ite (fun _ => h) fun _ => h.setSite

theorem judgeAll_routes (h : RoutesSound s) : RoutesSound (judgeAll s) := h.foldl fun _ _ => judgeSite_routes

theorem chainKick_routes (h : RoutesSound s) : RoutesSound (chainKick s) := by
  rw [chainKick_only]
  exact h.other

theorem countNoted_routes (h : RoutesSound s) : RoutesSound (countNoted s) := by
  refine h.foldl fun u k hu => hu.foldl fun v place hv => ?_
  exact .ite (fun _ => hv) fun _ => .ite (fun _ => notice_routes hv.other) fun _ => hv.other

/-! ### Routes -/

theorem breakEntries_routes {es : List EntryId} (h : RoutesSound s) : RoutesSound (breakEntries es s) :=
  .ite (fun _ => h) fun _ => chainKick_routes (h.foldl fun _ _ => breakEntry_routes _)

/-- The entry that is written has the nodes and the bus of the one it replaces, and is live if that one is. -/
theorem completeEntry_routes {snapshot : Matrix} {e : EntryId} (h : RoutesSound s) :
    RoutesSound (completeEntry snapshot s e) := by
  unfold completeEntry
  split
  · rename_i r hr
    exact .ite (fun _ => .ite (fun _ => h.rewrite e hr rfl rfl rfl) fun _ =>
      .ite (fun _ => h.rewrite e hr rfl rfl rfl) fun _ => h) fun _ => h
  · exact h

theorem routesPassCompletion_routes (h : RoutesSound s) : RoutesSound (routesPassCompletion s) :=
  h.foldl fun _ _ => completeEntry_routes

theorem live_of_closing {r : LiveRoute} (h : r.state = .making ∨ r.state = .made) : r.live = true := by
  rcases h with h | h <;> simp [LiveRoute.live, h]

theorem faultEntry_routes {k : CardId} {e : EntryId} (h : RoutesSound s) : RoutesSound (faultEntry k s e) := by
  unfold faultEntry
  split
  · rename_i r hr
    exact .ite (fun hf => h.rewrite e hr rfl rfl (live_of_closing hf.1).symm) fun _ => h
  · exact h

/-! ### Ports -/

theorem outputFailed_routes {i : InstrId} {a : Option Awaited} (h : RoutesSound s) : RoutesSound (outputFailed i a s) :=
  .ite (fun _ => h.setPort) fun _ => h

theorem askSourceOff_routes {n : SiteId} {i : InstrId} (h : RoutesSound s) : RoutesSound (askSourceOff n s i) :=
  .ite (fun _ => h.setPort) fun _ => .ite (fun _ => h.setPort.setPort) fun _ => h.setPort

theorem takeSourceOff_routes {i : InstrId} (h : RoutesSound s) : RoutesSound (takeSourceOff i s) := by
  unfold takeSourceOff
  split
  · exact askSourceOff_routes h.setPort
  · exact h

/-! ### Ends of a step -/

theorem finishStep_routes {n : SiteId} {failed : Bool} {bin : Option Bin} (h : RoutesSound s) :
    RoutesSound (finishStep n failed bin s) := by
  simp only [finishStep]
  split
  · exact h
  · exact .ite (fun _ => h.setSite.other) fun _ => notice_routes h.setSite

theorem abandonStep_routes {n : SiteId} (h : RoutesSound s) : RoutesSound (abandonStep n s) := by
  rw [abandonStep_shape s n]
  exact h.other

theorem handover_routes {i : InstrId} (h : RoutesSound s) : RoutesSound (handover i s) := by
  rw [handover_eq]
  exact h.setLease

/-! ### Posts and completions -/

theorem readyIf_routes {b : Bool} {filed : ResultRecord} (h : RoutesSound s) : RoutesSound (readyIf b filed s) :=
  .ite (fun _ => notice_routes h) fun _ => h

theorem completeMeasure_routes {n : SiteId} {f : MeasureFields} {j : Judged} (h : RoutesSound s) :
    RoutesSound (completeMeasure n f j s) :=
  finishStep_routes (.ite (fun _ => h.setSite.other) fun _ => h.setSite)

theorem writeZero_routes {e : Option EntryId} {z : Int} (h : RoutesSound s) : RoutesSound (writeZero e z s) := by
  unfold writeZero
  split
  · split
    · rename_i r hr
      exact h.rewrite _ hr rfl rfl rfl
    · exact h
  · exact h

theorem directError_routes {n : SiteId} {err : StepError} (h : RoutesSound s) : RoutesSound (directError n err s) := by
  simp only [directError]
  split
  · exact notice_routes h.setSite
  · exact h

theorem completeZero_routes {n : SiteId} {j : Judged} (h : RoutesSound s) : RoutesSound (completeZero n j s) :=
  .ite (fun _ => .ite (fun _ => h.setSite.setSite.other) fun _ => directError_routes h.setSite) fun _ =>
    finishStep_routes (writeZero_routes h).setSite

theorem completeMeasurement_routes {n : SiteId} {j : Judged} (h : RoutesSound s) :
    RoutesSound (completeMeasurement n j s) := by
  unfold completeMeasurement
  split
  · exact completeMeasure_routes h
  · exact completeZero_routes h
  · exact h

theorem admitPost_routes {n : SiteId} (h : RoutesSound s) : RoutesSound (admitPost n s) := by
  simp only [admitPost]
  split
  · split
    · exact readyIf_routes (completeMeasurement_routes h.other)
    · exact h
  · exact h

theorem examineSpace_routes (h : RoutesSound s) : RoutesSound (examineSpace s) :=
  examineList_keeps s RoutesSound _ (fun _ _ => .other) (fun _ _ _ => admitPost_routes) h

theorem takePost_routes {n : SiteId} (h : RoutesSound s) : RoutesSound (takePost n s) :=
  .ite (fun _ => admitPost_routes h) fun _ => h.other.setSite

/-! ### Teardown -/

theorem recordPhase_routes {n : SiteId} (h : RoutesSound s) : RoutesSound (recordPhase n s) :=
  .ite (fun _ => examineSpace_routes (readyIf_routes (notice_routes (RoutesSound.setSite (.other h.setSite))))) fun _ =>
    h.setSite.setSite

theorem releasePhase_routes {n : SiteId} (h : RoutesSound s) : RoutesSound (releasePhase n s) :=
  recordPhase_routes (h.setSite.foldl fun _ _ hu => .ite (fun _ => handover_routes hu) fun _ => hu)

theorem breakPhase_routes {n : SiteId} (h : RoutesSound s) : RoutesSound (breakPhase n s) :=
  .ite (fun _ => releasePhase_routes (breakEntries_routes h.setSite)) fun _ => breakEntries_routes h.setSite

theorem quietPhase_routes {n : SiteId} (h : RoutesSound s) : RoutesSound (quietPhase n s) :=
  .ite (fun _ => breakPhase_routes h.setSite) fun _ => h.setSite.foldl fun _ _ => askSourceOff_routes

theorem runTeardown_routes {n : SiteId} (h : RoutesSound s) : RoutesSound (runTeardown n s) :=
  .ite (fun _ => quietPhase_routes (abandonStep_routes h)) fun _ => h

theorem teardownEntry_routes {n : SiteId} {cause : Cause} {err : Option StepError} (h : RoutesSound s) :
    RoutesSound (teardownEntry n cause err s) := by
  refine .ite (fun _ => ?_) fun _ => h
  split
  · exact .ite (fun _ => notice_routes h.setSite) fun _ => h.setSite
  · exact h.setSite

theorem enterTeardown_routes {n : SiteId} {cause : Cause} {err : Option StepError} (h : RoutesSound s) :
    RoutesSound (enterTeardown n cause err s) :=
  .ite (fun _ => runTeardown_routes (teardownEntry_routes h)) fun _ => h

theorem stepError_routes {n : SiteId} {err : StepError} (h : RoutesSound s) : RoutesSound (stepError n err s) := by
  refine .ite (fun _ => enterTeardown_routes h) fun _ => .ite (fun _ => ?_) fun _ => h
  split
  · exact notice_routes (abandonStep_routes h).setSite
  · exact h

/-! ### The step kinds -/

theorem acquireStep_routes {n : SiteId} {i : InstrId} (h : RoutesSound s) : RoutesSound (acquireStep n i s) := by
  refine .ite (fun _ => finishStep_routes h) fun _ => .ite (fun _ => stepError_routes h) fun _ => ?_
  split
  · exact finishStep_routes h.setLease
  · exact h.setLease.setSite

theorem releaseStep_routes {n : SiteId} {i : InstrId} (h : RoutesSound s) : RoutesSound (releaseStep n i s) :=
  .ite (fun _ => finishStep_routes h) fun _ => .ite (fun _ => stepError_routes h) fun _ =>
    .ite (fun _ => finishStep_routes (handover_routes h)) fun _ => (breakEntries_routes h).setSite

/-- What the room check has found when it lets a route be created (R57, checks 9 and 10). -/
theorem roomCheck_create {r q : LiveRoute} {e : EntryId} (hc : roomCheck s r = .create e q) :
    q = r ∧ s.freeEntry = some e ∧ ∀ p ∈ r.nodes, s.nodeState p = none := by
  unfold roomCheck at hc
  split at hc
  · cases hc
  · rename_i f hf
    split at hc
    · cases hc
    · split at hc
      · cases hc
      · rename_i hfree
        cases hc
        simpa [hf] using hfree

theorem existingCheck_create {n : SiteId} {d : Byte} {r q : LiveRoute} {e : EntryId}
    (hc : existingCheck s n d r = .create e q) : roomCheck s r = .create e q := by
  unfold existingCheck at hc
  split at hc
  · split at hc
    · cases hc
    · cases hc
    · cases hc
    · exact hc
  · exact hc

/-- A route that CONNECT creates is in MAKING, on the nodes that the window translates, and these are free (R54, R56 to R58). -/
theorem connectAnswer_create {n : SiteId} {d : Byte} {r : LiveRoute} {e : EntryId}
    (hc : connectAnswer s n d = .create e r) : r.state = .making ∧ s.freeEntry = some e ∧
      (∃ relative, translate (s.window n) relative = some r.nodes) ∧ ∀ p ∈ r.nodes, s.nodeState p = none := by
  unfold connectAnswer at hc
  split at hc
  · cases hc
  · split at hc
    · cases hc
    · split at hc
      · cases hc
      · split at hc
        · cases hc
        · rename_i nodes hnodes
          dsimp only at hc
          split at hc
          · cases hc
          · obtain ⟨rfl, hfree, hnone⟩ := roomCheck_create (existingCheck_create hc)
            exact ⟨rfl, hfree, ⟨_, hnodes⟩, hnone⟩

theorem freeEntry_free {e : EntryId} (h : s.freeEntry = some e) : s.route e = none :=
  Option.isNone_iff_eq_none.1 (List.find?_some (p := fun e => (s.route e).isNone) h)

theorem connectStep_routes {n : SiteId} {d : Byte} (h : RoutesSound s) : RoutesSound (connectStep n d s) := by
  unfold connectStep
  split
  · exact stepError_routes h
  · exact finishStep_routes h
  · exact h.setSite.setSite
  · rename_i e r hc
    obtain ⟨hmaking, hfree, ⟨relative, htranslate⟩, hnone⟩ := connectAnswer_create hc
    have created := h.create e r (freeEntry_free hfree) (live_of_closing (.inl hmaking)) fun p hp =>
      ⟨h.translate_lt htranslate p hp, hnone p hp⟩
    exact (chainKick_routes created.setChain).setSite.setSite

theorem disconnectStep_routes {n : SiteId} {d : Byte} (h : RoutesSound s) : RoutesSound (disconnectStep n d s) := by
  unfold disconnectStep
  split
  · exact finishStep_routes h
  · exact .ite (fun _ => finishStep_routes (breakEntries_routes h)) fun _ => stepError_routes h

theorem disconnectAllStep_routes {n : SiteId} (h : RoutesSound s) : RoutesSound (disconnectAllStep n s) :=
  .ite (fun _ => finishStep_routes (breakEntries_routes h)) fun _ => stepError_routes h

theorem sendCommand_routes {n : SiteId} {i : InstrId} {c : PortCommand} (h : RoutesSound s) :
    RoutesSound (sendCommand n i c s) := by
  cases c with
  | configure f => exact h.setPort.setPort.setPort
  | output on => exact h.setPort.setPort
  | sample => exact h.setSite.setPort

theorem portStep_routes {n : SiteId} {i : InstrId} {c : PortCommand} (h : RoutesSound s) :
    RoutesSound (portStep n i c s) := by
  refine .ite (fun _ => stepError_routes h) fun _ => .ite (fun _ => stepError_routes h) fun _ => ?_
  split
  · exact stepError_routes h
  · exact finishStep_routes h
  · exact .ite (fun _ => h.setSite) fun _ => sendCommand_routes h.setSite

theorem samplingStep_routes {n : SiteId} {r : StepRecord} (h : RoutesSound s) : RoutesSound (samplingStep n r s) := by
  refine .ite (fun _ => stepError_routes h.setSite) fun _ => ?_
  split
  · exact stepError_routes h.setSite
  · exact h.setSite.setSite.setSite
  · exact portStep_routes h.setSite.setSite
  · exact portStep_routes h.setSite
  · exact h.setSite

theorem delayStep_routes {n : SiteId} {d : BitVec 24} (h : RoutesSound s) : RoutesSound (delayStep n d s) :=
  .ite (fun _ => finishStep_routes h) fun _ => h.setSite.setSite

theorem signalStep_routes {n : SiteId} {mask : Byte} (h : RoutesSound s) : RoutesSound (signalStep n mask s) :=
  .ite (fun _ => finishStep_routes h) fun _ => finishStep_routes (notice_routes h.setSite)

theorem flagsMatched_routes {n : SiteId} {mask : Byte} (h : RoutesSound s) : RoutesSound (flagsMatched n mask s) :=
  finishStep_routes h.setSite

theorem waitFlagStep_routes {n : SiteId} {mask : Byte} {mode : FlagMode} {timeout : BitVec 16} (h : RoutesSound s) :
    RoutesSound (waitFlagStep n mask mode timeout s) :=
  .ite (fun _ => flagsMatched_routes h) fun _ => h.setSite.setSite

theorem performStep_routes {n : SiteId} {r : StepRecord} (h : RoutesSound s) : RoutesSound (performStep n r s) := by
  unfold performStep
  split
  · exact acquireStep_routes h
  · exact releaseStep_routes h
  · exact connectStep_routes h
  · exact disconnectStep_routes h
  · exact disconnectAllStep_routes h
  · exact portStep_routes h
  · exact portStep_routes h
  · exact samplingStep_routes h
  · exact samplingStep_routes h
  · exact delayStep_routes h
  · exact signalStep_routes h
  · exact waitFlagStep_routes h
  · exact finishStep_routes h

theorem takeStep_routes {n : SiteId} {k : Nat} (h : RoutesSound s) : RoutesSound (takeStep n k s) := by
  unfold takeStep
  split
  · exact stepError_routes h.setSite
  · exact performStep_routes h.setSite

theorem runTodo_routes {n : SiteId} {todo : Todo} (h : RoutesSound s) : RoutesSound (runTodo n todo s) := by
  refine .ite (fun _ => ?_) fun _ => h
  cases todo with
  | take k => exact takeStep_routes h
  | enter cause err => exact enterTeardown_routes h

theorem settle_routes (h : RoutesSound s) : RoutesSound (settle s) :=
  settle_keeps s RoutesSound (fun _ _ => .other) (fun _ _ _ => runTodo_routes) h

end Sys2Proof.Machine
end

section
/-! The events that one block hands to another, the receiver of the link, the messages of the ports and the fixture keep the
routes sound. -/

namespace Sys2Proof.Machine

variable {s : State}

/-! ### Loads, routes and their sites -/

theorem beginHeader_routes (h : RoutesSound s) : RoutesSound (beginHeader s) := h.noIdentity rfl

theorem beginLoad_routes (h : RoutesSound s) : RoutesSound (beginLoad s) :=
  .ite (fun _ => beginHeader_routes h) fun _ => h.noIdentity rfl

theorem listEmptied_routes (h : RoutesSound s) : RoutesSound (listEmptied s) :=
  .ite (fun _ => beginHeader_routes h) fun _ => h

theorem tellMade_routes {e : EntryId} {n : SiteId} (h : RoutesSound s) : RoutesSound (tellMade e n s) := by
  refine .ite (fun _ => ?_) fun _ => h
  split
  · split
    · exact finishStep_routes h
    · exact samplingStep_routes h.setSite
    · exact samplingStep_routes h.setSite
    · exact h
  · exact h

theorem routeMade_routes {e : EntryId} {r : LiveRoute} (h : RoutesSound s) (hr : s.route e = some r)
    (hm : r.state = .making) : RoutesSound (routeMade e r s) :=
  tellMade_routes (h.rewrite e hr rfl rfl (live_of_closing (.inl hm)).symm)

theorem tellGone_routes {r : LiveRoute} (h : RoutesSound s) : RoutesSound (tellGone r s) := by
  simp only [tellGone]
  split
  · exact .ite (fun _ => finishStep_routes (handover_routes h.setSite)) fun _ => h
  · exact .ite (fun _ => connectStep_routes h.setSite) fun _ => h
  · exact .ite (fun _ => releasePhase_routes h) fun _ => h

theorem routeGone_routes {e : EntryId} {r : LiveRoute} (h : RoutesSound s) (hr : s.route e = some r)
    (hb : r.state = .breaking) : RoutesSound (routeGone e r s) :=
  listEmptied_routes (tellGone_routes (freeRoute_routes e r h hr (by simp [LiveRoute.live, hb])))

theorem deliverRouteFault_routes {n : SiteId} (h : RoutesSound s) : RoutesSound (deliverRouteFault s n) :=
  .ite (fun _ => stepError_routes h) fun _ => h

/-! ### The relay chain -/

theorem cardFault_routes {k : CardId} {cause : CardCause} {id returned : Option Byte} {differ : List Nat} {pass : Nat}
    (h : RoutesSound s) : RoutesSound (cardFault k cause id returned differ pass s) :=
  notice_routes (.foldl (fun _ _ => deliverRouteFault_routes) (h.setCard.foldl fun _ _ => faultEntry_routes))

theorem judgeCard_routes {k : CardId} {answer : Option CardAnswer} (h : RoutesSound s) :
    RoutesSound (judgeCard k answer s) := by
  simp only [judgeCard]
  split
  · exact cardFault_routes h
  · exact .ite (fun _ => cardFault_routes h) fun _ => .ite (fun _ => h.setCard) fun _ => cardFault_routes h.setCard

theorem expireAtOnce_routes {e : EntryId} (h : RoutesSound s) : RoutesSound (expireAtOnce s e) := by
  unfold expireAtOnce
  split
  · rename_i r hr
    refine .ite (fun _ => ?_) fun _ => h
    split
    · exact routeMade_routes h hr ‹_›
    · exact routeGone_routes h hr ‹_›
    · exact h
    · exact h
  · exact h

theorem completePass_routes (h : RoutesSound s) : RoutesSound (completePass s) :=
  chainKick_routes (RoutesSound.setChain
    (.foldl (fun _ _ => expireAtOnce_routes) (routesPassCompletion_routes (countNoted_routes h))))

/-! ### Ports and sites -/

theorem recheckPort_routes {i : InstrId} {n : SiteId} (h : RoutesSound s) : RoutesSound (recheckPort i s n) := by
  refine .ite (fun _ => ?_) fun _ => h
  split
  · exact .ite (fun _ => portStep_routes h.setSite) fun _ => h
  · exact h

theorem portFreed_routes {i : InstrId} (h : RoutesSound s) : RoutesSound (portFreed i s) :=
  .ite (fun _ => h) fun _ => .foldl (fun _ _ => recheckPort_routes) (takeSourceOff_routes h)

theorem endSampling_routes {n : SiteId} {r : StepRecord} (h : RoutesSound s) : RoutesSound (endSampling n r s) :=
  .ite (fun _ => takePost_routes h.setSite) fun _ => completeMeasurement_routes h.setSite

theorem takeSample_routes {n : SiteId} {i : InstrId} {code : Int} {flagged sign : Bool} {trigger conversion : Time}
    (h : RoutesSound s) : RoutesSound (takeSample n i code flagged sign trigger conversion s) := by
  simp only [takeSample]
  split
  · split
    · exact .ite (fun _ => .ite (fun _ => .ite (fun _ => h.setSite.setPort) fun _ => h.setSite.setPort) fun _ =>
        endSampling_routes h.setSite) fun _ => h
    · exact h
  · exact h

/-! ### The lines of the fixture -/

theorem seatEffect_routes {n : SiteId} {active : Bool} (h : RoutesSound s) : RoutesSound (seatEffect n active s) := by
  have judged : RoutesSound (judgeSite (inputNotice (seatLine n) active .notStart s) n) :=
    judgeSite_routes (notice_routes h)
  exact .ite (fun _ => judged) fun _ => enterTeardown_routes judged

theorem startEffect_routes {n : SiteId} {active pressed : Bool} (h : RoutesSound s) :
    RoutesSound (startEffect n active pressed s) :=
  .ite (fun _ => .ite (fun _ => notice_routes (.other h.setSite)) fun _ => notice_routes h) fun _ => notice_routes h

theorem lidOpened_routes (h : RoutesSound s) : RoutesSound (lidOpened s) := by
  have added : RoutesSound (safeAdd .lid (inputNotice lidLine false .notStart s)) := safeAdd_routes (notice_routes h)
  exact judgeAll_routes (.ite (fun _ => notice_routes (added.noIdentity rfl)) fun _ => added)

theorem lidShut_routes (h : RoutesSound s) : RoutesSound (lidShut s) := by
  have removed : RoutesSound (safeRemove .lid (inputNotice lidLine true .notStart s)) :=
    safeRemove_routes (notice_routes h)
  have owned := removed.sameIdentity (f := { (safeRemove .lid (inputNotice lidLine true .notStart s)).fixture with
    owner := .monitor }) id rfl
  exact judgeAll_routes (.ite (fun _ => owned) fun _ => beginLoad_routes owned)

theorem acceptChange_routes {l : LineId} {filtered active mayPress : Bool} (h : RoutesSound s) :
    RoutesSound (acceptChange l filtered active mayPress s) := by
  simp only [acceptChange]
  split
  · exact seatEffect_routes h.setLine
  · exact startEffect_routes h.setLine
  · exact .ite (fun _ => lidShut_routes h.setLine) fun _ => lidOpened_routes h.setLine

theorem judgeLine_routes {l : LineId} {mayPress : Bool} (h : RoutesSound s) : RoutesSound (judgeLine l mayPress s) :=
  .ite (fun _ => h) fun _ => .ite (fun _ => h.setLine) fun _ => acceptChange_routes h

theorem lidTest_routes (h : RoutesSound s) : RoutesSound (lidTest s) := judgeLine_routes h

theorem engineIdle_routes (h : RoutesSound s) : RoutesSound (engineIdle s) :=
  lidTest_routes (h.sameIdentity (f := { s.fixture with busy := false, transfer := none }) id rfl)

/-! ### The receiver of the host link, requests -/

theorem frameArrival_routes {f : Frame} (h : RoutesSound s) : RoutesSound (frameArrival f s) := by
  have cleared : RoutesSound (safeRemove .link (restartWatchdog s)) := safeRemove_routes h.setLink
  exact .ite (fun _ => cleared.setLink) fun _ => cleared.setLink

theorem linkEvent_routes {e : LinkEvent} (h : RoutesSound s) : RoutesSound (linkEvent s e) := by
  cases e with
  | good f => exact frameArrival_routes h
  | badLength => exact h.setLink
  | badCrc => exact h.setLink

theorem receive_routes {bytes : List Byte} (h : RoutesSound s) : RoutesSound (receive bytes s) :=
  h.setLink.foldl fun _ _ => linkEvent_routes

theorem deliver_routes {f : Frame} (h : RoutesSound s) : RoutesSound (deliver f s) :=
  .ite (fun _ => frameArrival_routes h) fun _ => receive_routes h

/-- A request keeps the routes sound when its handler does. -/
theorem takeRequest_routes {kind tag : Byte} {body : List Byte} {handler : State → State}
    (hh : ∀ u, RoutesSound u → RoutesSound (handler u)) (h : RoutesSound s) :
    RoutesSound (takeRequest kind tag body handler s) := by
  have arrived : RoutesSound (if s.link.rx.head? = some ⟨kind, tag, body⟩ then s else deliver ⟨kind, tag, body⟩ s) :=
    .ite (fun _ => h) fun _ => deliver_routes h
  exact .ite (fun _ => hh _ arrived.setLink) fun _ => arrived

theorem reply_routes {kind tag : Byte} {status : Status} {fields : List Byte} (h : RoutesSound s) :
    RoutesSound (reply kind tag status fields s) := h.setLink

/-- A request whose body has fields: `allowed` says whether its length is one of its kind. -/
theorem request_routes {kind tag : Byte} {body : List Byte} {allowed : Bool} {handler : State → State}
    (hh : ∀ u, RoutesSound u → RoutesSound (handler u)) (h : RoutesSound s) :
    RoutesSound (takeRequest kind tag body (withLength kind tag allowed handler) s) :=
  takeRequest_routes (fun u hu => .ite (fun _ => hh u hu) fun _ => reply_routes hu) h

/-! ### Messages of the ports -/

theorem ackEffect_routes {i : InstrId} {p : Port} (h : RoutesSound s) : RoutesSound (ackEffect i p s) := by
  unfold ackEffect
  split
  · exact h.setPort
  · exact h.setPort
  · exact h.setPort
  · exact h

theorem userDone_routes {i : InstrId} {user : Option PortUser} (h : RoutesSound s) :
    RoutesSound (userDone i user s) := by
  unfold userDone
  split
  · exact finishStep_routes h
  · exact h.setPort
  all_goals exact h

theorem userFails_routes {i : InstrId} {user : Option PortUser} {err : StepError} {o : QuietOutcome} (h : RoutesSound s) :
    RoutesSound (userFails i user err o s) := by
  unfold userFails
  split
  · exact stepError_routes h
  · exact h.setPort
  all_goals exact h

theorem ackAccepted_routes {i : InstrId} (h : RoutesSound s) : RoutesSound (ackAccepted i s) :=
  portFreed_routes (userDone_routes (ackEffect_routes h.setPort))

theorem nakAccepted_routes {i : InstrId} {reason : Byte} (h : RoutesSound s) : RoutesSound (nakAccepted i reason s) :=
  portFreed_routes (userFails_routes (outputFailed_routes h.setPort.setPort.setPort))

theorem valueAccepted_routes {i : InstrId} {code : Int} {status : Byte} (h : RoutesSound s) :
    RoutesSound (valueAccepted i code status s) := by
  simp only [valueAccepted]
  split
  · exact takeSample_routes h.setPort
  · exact h.setPort

theorem identAccepted_routes {i : InstrId} {x : IdentFields} (h : RoutesSound s) : RoutesSound (identAccepted i x s) :=
  .ite (fun _ => portFreed_routes (notice_routes h.setPort.setPort)) fun _ => notice_routes h.setPort.setPort

theorem soundMessage_routes {i : InstrId} {m : PortMessage} (h : RoutesSound s) : RoutesSound (soundMessage i m s) := by
  refine .ite (fun _ => ?_) fun _ => h.setPort
  split
  · exact ackAccepted_routes h
  · exact nakAccepted_routes h
  · exact valueAccepted_routes h
  · exact identAccepted_routes h
  · exact h

theorem sendCancel_routes {i : InstrId} {ending : CancelEnd} (h : RoutesSound s) :
    RoutesSound (sendCancel i ending s) :=
  h.setPort.setPort

theorem exchangeTimedOut_routes {i : InstrId} (h : RoutesSound s) : RoutesSound (exchangeTimedOut i s) :=
  userFails_routes (sendCancel_routes (outputFailed_routes h.setPort.setPort))

theorem badChecksum_routes {i : InstrId} (h : RoutesSound s) : RoutesSound (badChecksum i s) :=
  .ite (fun _ => .ite (fun _ => userFails_routes (sendCancel_routes (outputFailed_routes h.setPort.setPort))) fun _ =>
    h.setPort.setPort) fun _ => h.setPort

theorem portEvent_routes {i : InstrId} {e : PortEvent} (h : RoutesSound s) : RoutesSound (portEvent i s e) := by
  cases e with
  | sound m => exact soundMessage_routes h
  | badChecksum => exact badChecksum_routes h

theorem portByte_routes {i : InstrId} {b : Byte} (h : RoutesSound s) : RoutesSound (portByte i s b) :=
  .ite (fun _ => h) fun _ =>
    settle_routes (portEvents_keeps _ RoutesSound i _ (fun _ _ => portEvent_routes) h.setPort)

theorem portReceive_routes {i : InstrId} {bytes : List Byte} (h : RoutesSound s) :
    RoutesSound (portReceive i bytes s) :=
  h.foldl fun _ _ => portByte_routes

theorem cancelEnded_routes {i : InstrId} (h : RoutesSound s) : RoutesSound (cancelEnded i s) := by
  refine portFreed_routes ?_
  split
  · exact h.setPort
  · exact notice_routes h.setPort.setPort
  · exact notice_routes h.setPort

theorem rdyChanged_routes {i : InstrId} {level : Bool} (h : RoutesSound s) : RoutesSound (rdyChanged i level s) :=
  .ite (fun _ => .ite (fun _ => h.setPort.setPort) fun _ =>
    .ite (fun _ => h.setPort.setPort.setPort.setPort) fun _ => h.setPort) fun _ => h.setPort

/-- An expiry keeps the routes sound when its effect does. -/
theorem whenRun_routes {t : Timer} {effect : State → State} (he : ∀ u, RoutesSound u → RoutesSound (effect u))
    (h : RoutesSound s) : RoutesSound (whenRun t effect s) :=
  whenRun_keeps s RoutesSound t effect (fun _ => h.other) he h

/-! ### The fixture -/

/-- A load ends VALID only with windows inside the matrix (R164, R169). -/
theorem endLoad_routes {held : Option Identity} {cause : Option LoadCause}
    (hc : cause = none → ∀ hd ws crc, held = some ⟨hd, some (ws, crc)⟩ → ∀ w ∈ ws, w.base + w.size ≤ 512)
    (h : RoutesSound s) : RoutesSound (endLoad held cause s) := by
  have ended : RoutesSound (s.setFixture { s.fixture with
      held := held, state := if cause = none then .valid else .invalid, loadCause := cause, loadStep := none
      headerBytes := [], busy := false }) := by
    refine h.setFixture _ fun hforce => hc ?_
    by_contra hcause
    simp [Fixture.inForce, hcause] at hforce
  exact lidTest_routes (judgeAll_routes (notice_routes ended))

theorem endLoad_invalid {held : Option Identity} {cause : LoadCause} (h : RoutesSound s) :
    RoutesSound (endLoad held (some cause) s) :=
  endLoad_routes (fun hc => by cases hc) h

theorem bodyCheck_none {bytes : List Byte} {ws : List Window} {crc : BitVec 16} (h : bodyCheck bytes (ws, crc) = none) :
    ∀ w ∈ ws, w.base + w.size ≤ 512 := by
  intro w hw
  unfold bodyCheck at h
  split at h
  · cases h
  · split at h
    · rename_i hsound
      simp only [windowsSound, Bool.and_eq_true, List.all_eq_true, decide_eq_true_eq] at hsound
      exact (hsound.1 w hw).2
    · cases h

theorem headerRead_routes {bytes : List Byte} {hd : IdentityHeader} (h : RoutesSound s) :
    RoutesSound (headerRead bytes hd s) := by
  unfold headerRead
  split
  · exact endLoad_invalid h
  · exact h.sameIdentity id rfl

theorem bodyRead_routes {hd : IdentityHeader} {bytes : List Byte} {body : List Window × BitVec 16} (h : RoutesSound s) :
    RoutesSound (bodyRead hd bytes body s) := by
  refine endLoad_routes (fun hc _ ws crc hheld => ?_) h
  cases hheld
  exact bodyCheck_none hc

theorem endTransfer_routes {error : Option EngineError} {status : Status} {fields : List Byte} (h : RoutesSound s) :
    RoutesSound (endTransfer error status fields s) := by
  unfold endTransfer
  split
  · exact engineIdle_routes (reply_routes (h.sameIdentity (f := { s.fixture with error := error }) id rfl).setLink)
  · exact h

theorem pollAnswered_routes {ack : Bool} {length polls : Nat} {t : Timer} (h : RoutesSound s) :
    RoutesSound (pollAnswered ack length polls t s) := by
  have polled : RoutesSound (busDone pollItems s) := h.sameIdentity id rfl
  exact .ite (fun _ => settle_routes (endTransfer_routes polled)) fun _ =>
    .ite (fun _ => settle_routes (endTransfer_routes polled)) fun _ => polled.sameIdentity id rfl

theorem readIdentity_fits {bytes : List Byte} {hd : IdentityHeader} {ws : List Window} {crc : BitVec 16}
    (h : readIdentity bytes = some ⟨hd, some (ws, crc)⟩) : ∀ w ∈ ws, w.base + w.size ≤ 512 := by
  unfold readIdentity at h
  split at h
  · split at h
    · split at h
      · rename_i hcheck
        cases h
        exact bodyCheck_none hcheck
      · cases h
    · cases h
  · cases h

theorem putEmulated_routes {bytes : List Byte} {i : Identity} (hi : readIdentity bytes = some i) (h : RoutesSound s) :
    RoutesSound (putEmulated i s) := by
  refine judgeAll_routes (notice_routes (h.setFixture _ fun _ hd ws crc hheld => ?_))
  obtain rfl := Option.some.inj hheld
  exact readIdentity_fits hi

theorem setOwner_routes {owner : Owner} (h : RoutesSound s) :
    RoutesSound (s.setFixture { s.fixture with owner := owner }) := h.sameIdentity id rfl

theorem reloadFixture_routes (h : RoutesSound s) : RoutesSound (reloadFixture s) :=
  .ite (fun _ => judgeAll_routes (beginLoad_routes h)) fun _ => judgeAll_routes (notice_routes (h.noIdentity rfl))

theorem takeMemory_routes {kind tag : Byte} {command : EngineCommand} {transfer : Transfer} {items : List BusItem}
    {address length : Nat} {crosses : Bool} (h : RoutesSound s) :
    RoutesSound (takeMemory kind tag command transfer items address length crosses s) := by
  have taken := h.sameIdentity (f := { s.fixture with
    lastCommand := some (command, address, length), error := none }) id rfl
  exact .ite (fun _ => reply_routes (taken.sameIdentity id rfl)) fun _ => RoutesSound.setLink (taken.sameIdentity id rfl)

end Sys2Proof.Machine
end

section
/-! Every command keeps the routes sound, and so does every step (O60). -/

namespace Sys2Proof.Machine

variable {s : State}

/-- An answer whose next state has its routes sound. -/
structure AnswerRoutes (a : Answer) : Prop where
  sound : ∀ t, a = .next t → RoutesSound t

theorem RoutesSound.answer (h : RoutesSound s) : AnswerRoutes (.next s) := by
  constructor
  rintro _ ⟨⟩
  exact h

/-! ### The host link -/

theorem execFragmentGapExpiry_routes (h : RoutesSound s) : AnswerRoutes (execFragmentGapExpiry s) := by
  unfold execFragmentGapExpiry
  split
  · exact h.answer
  · exact (whenRun_routes (fun u hu => RoutesSound.foldl (fun _ _ => linkEvent_routes) hu.setLink.setLink) h).answer

theorem execFrameSent_routes (h : RoutesSound s) : AnswerRoutes (execFrameSent s) := by
  unfold execFrameSent
  split
  · exact h.answer
  · exact h.setLink.answer

theorem execLinkWatchdogExpiry_routes (h : RoutesSound s) : AnswerRoutes (execLinkWatchdogExpiry s) := by
  unfold execLinkWatchdogExpiry
  split
  · exact h.answer
  · exact (whenRun_routes (fun u hu => safeAdd_routes (notice_routes hu.setLink.setLink)) h).answer

theorem execUnknownKindFrame_routes {kind tag : Byte} {body : List Byte} (h : RoutesSound s) :
    AnswerRoutes (execUnknownKindFrame kind tag body s) := by
  unfold execUnknownKindFrame
  split
  · exact h.answer
  · exact (takeRequest_routes (fun u hu => hu.setLink) h).answer

theorem execIdent_routes {tag : Byte} {body : List Byte} (h : RoutesSound s) : AnswerRoutes (execIdent tag body s) :=
  (request_routes (fun _ hu => reply_routes hu) h).answer

theorem execCountersRead_routes {tag : Byte} {body : List Byte} (h : RoutesSound s) :
    AnswerRoutes (execCountersRead tag body s) :=
  (request_routes (fun _ hu => reply_routes hu) h).answer

theorem execSafeEnter_routes {tag : Byte} {body : List Byte} (h : RoutesSound s) :
    AnswerRoutes (execSafeEnter tag body s) :=
  (request_routes (fun _ hu => reply_routes (safeAdd_routes hu)) h).answer

theorem execSafeLeave_routes {tag : Byte} {body : List Byte} (h : RoutesSound s) :
    AnswerRoutes (execSafeLeave tag body s) :=
  (request_routes (fun _ hu => reply_routes (safeRemove_routes hu)) h).answer

theorem statusRequest_routes {tag : Byte} {body : List Byte} (h : RoutesSound s) :
    RoutesSound (statusRequest tag body s) := by
  refine request_routes (fun u hu => ?_) h
  split
  · exact reply_routes hu
  · exact reply_routes (.ite (fun _ => hu.other) fun _ => hu)

theorem clearGroup_routes {g : CounterGroup} (h : RoutesSound s) : RoutesSound (clearGroup g s) := by
  cases g with
  | link => exact h.setLink
  | watchdog => exact h.setLink
  | port i => exact h.setPort
  | card => exact h.setChain

theorem countersClearRequest_routes {tag : Byte} {body : List Byte} (h : RoutesSound s) :
    RoutesSound (countersClearRequest tag body s) := by
  refine request_routes (fun u hu => ?_) h
  split
  · exact reply_routes hu
  · exact reply_routes (clearGroup_routes hu)

theorem execSoftReset_routes {tag : Byte} {body : List Byte} (h : RoutesSound s) :
    AnswerRoutes (execSoftReset tag body s) :=
  (request_routes (fun _ hu => (reply_routes hu).setLink) h).answer

theorem execWatchdogSet_routes {tag : Byte} {body : List Byte} (h : RoutesSound s) :
    AnswerRoutes (execWatchdogSet tag body s) := by
  refine (request_routes (fun u hu => ?_) h).answer
  split
  · exact reply_routes hu.setLink.setLink
  · exact hu

/-! ### Tables -/

theorem loadTable_routes {α : Type} {kind tag : Byte} {places size : Nat} {read : List Byte → Option (Option α)}
    {table : State → Table α} {write : State → Table α → State} {first : Nat} {clear : Byte} {records : List Byte}
    (hw : ∀ m, RoutesSound (write s m)) (h : RoutesSound s) :
    RoutesSound (loadTable kind tag places size read table write first clear records s) := by
  refine .ite (fun _ => reply_routes h) fun _ => .ite (fun _ => reply_routes h) fun _ => ?_
  split
  · exact reply_routes (hw _)
  · exact reply_routes h

theorem execStepsLoad_routes {tag : Byte} {body : List Byte} (h : RoutesSound s) :
    AnswerRoutes (execStepsLoad tag body s) := by
  refine (request_routes (fun u hu => ?_) h).answer
  split
  · exact loadTable_routes (fun _ => hu.other) hu
  · exact hu

theorem execRoutedefLoad_routes {tag : Byte} {body : List Byte} (h : RoutesSound s) :
    AnswerRoutes (execRoutedefLoad tag body s) := by
  refine (request_routes (fun u hu => ?_) h).answer
  split
  · exact loadTable_routes (fun _ => hu.other) hu
  · exact hu

theorem execLimitsLoad_routes {tag : Byte} {body : List Byte} (h : RoutesSound s) :
    AnswerRoutes (execLimitsLoad tag body s) := by
  refine (request_routes (fun u hu => ?_) h).answer
  split
  · exact loadTable_routes (fun _ => hu.other) hu
  · exact hu

theorem execStepsRead_routes {tag : Byte} {body : List Byte} (h : RoutesSound s) :
    AnswerRoutes (execStepsRead tag body s) := by
  refine (request_routes (fun u hu => ?_) h).answer
  split
  · exact .ite (fun _ => reply_routes hu) fun _ => reply_routes hu
  · exact hu

theorem execCalSet_routes {tag : Byte} {body : List Byte} (h : RoutesSound s) :
    AnswerRoutes (execCalSet tag body s) := by
  refine (request_routes (fun u hu => ?_) h).answer
  split
  · split
    · exact reply_routes hu.other
    · exact reply_routes hu
  · exact hu

theorem execCalRead_routes {tag : Byte} {body : List Byte} (h : RoutesSound s) :
    AnswerRoutes (execCalRead tag body s) := by
  refine (request_routes (fun u hu => ?_) h).answer
  split
  · split <;> exact reply_routes hu
  · exact hu

theorem cardSetRequest_routes {tag : Byte} {body : List Byte} (h : RoutesSound s) :
    RoutesSound (cardSetRequest tag body s) := by
  refine request_routes (fun u hu => ?_) h
  split
  · split
    · exact reply_routes hu.setCard
    · exact reply_routes hu
  · exact .ite (fun _ => reply_routes hu.setChain) fun _ => reply_routes hu
  · exact hu

theorem execCardReset_routes {tag : Byte} {body : List Byte} (h : RoutesSound s) :
    AnswerRoutes (execCardReset tag body s) := by
  refine (request_routes (fun u hu => ?_) h).answer
  split
  · split
    · exact reply_routes hu
    · exact .ite (fun _ => reply_routes hu) fun _ => .ite (fun _ => reply_routes hu) fun _ =>
        reply_routes (chainKick_routes hu.setCard.setChain)
  · exact hu

theorem execWearRead_routes {tag : Byte} {body : List Byte} (h : RoutesSound s) :
    AnswerRoutes (execWearRead tag body s) := by
  refine (request_routes (fun u hu => ?_) h).answer
  split
  · split <;> exact reply_routes hu
  · exact hu

theorem loadWear_routes {k : CardId} {x : Nat × List Byte} (h : RoutesSound s) : RoutesSound (loadWear k s x) := by
  unfold loadWear
  split
  · exact h.other
  · exact h

theorem execWearLoad_routes {tag : Byte} {body : List Byte} (h : RoutesSound s) :
    AnswerRoutes (execWearLoad tag body s) := by
  refine (request_routes (fun u hu => ?_) h).answer
  split
  · split
    · exact .ite (fun _ => reply_routes hu) fun _ => reply_routes (hu.foldl fun _ _ => loadWear_routes)
    · exact reply_routes hu
  · exact hu

theorem execFetch_routes {tag : Byte} {body : List Byte} (h : RoutesSound s) : AnswerRoutes (execFetch tag body s) := by
  refine (settle_routes (request_routes (fun u hu => ?_) h)).answer
  split
  · refine .ite (fun _ => reply_routes hu) fun _ => .ite (fun _ => ?_) fun _ => examineSpace_routes ?_
    all_goals exact reply_routes hu.other
  · exact hu

/-! ### Sites -/

theorem execSiteSet_routes {tag : Byte} {body : List Byte} (h : RoutesSound s) :
    AnswerRoutes (execSiteSet tag body s) := by
  refine (request_routes (fun u hu => ?_) h).answer
  split
  · split
    · exact .ite (fun _ => reply_routes hu) fun _ => reply_routes hu.setSite
    · exact reply_routes hu
  · exact hu

theorem startSite_routes {tag : Byte} {n : SiteId} {slot : Nat} {clear : Bool} (h : RoutesSound s) :
    RoutesSound (startSite tag n slot clear s) :=
  .ite (fun _ => reply_routes h) fun _ => .ite (fun _ => reply_routes h) fun _ => .ite (fun _ => reply_routes h) fun _ =>
    reply_routes (.other h.setSite)

theorem execStart_routes {tag : Byte} {body : List Byte} (h : RoutesSound s) : AnswerRoutes (execStart tag body s) := by
  refine (settle_routes (request_routes (fun u hu => ?_) h)).answer
  split
  · split
    · split
      · exact startSite_routes hu
      · exact reply_routes hu
    · exact reply_routes hu
  · exact hu

theorem siteRequest_routes {kind tag : Byte} {body : List Byte} {act : SiteId → State → State}
    (ha : ∀ n u, RoutesSound u → RoutesSound (act n u)) (h : RoutesSound s) :
    RoutesSound (siteRequest kind tag body act s) := by
  refine request_routes (fun u hu => ?_) h
  split
  · split
    · exact ha _ u hu
    · exact reply_routes hu
  · exact hu

theorem execAbort_routes {tag : Byte} {body : List Byte} (h : RoutesSound s) : AnswerRoutes (execAbort tag body s) :=
  (settle_routes (siteRequest_routes (fun _ _ hu => .ite (fun _ => runTeardown_routes (reply_routes (teardownEntry_routes hu)))
    fun _ => reply_routes hu) h)).answer

theorem execManual_routes {tag : Byte} {body : List Byte} (h : RoutesSound s) : AnswerRoutes (execManual tag body s) :=
  (siteRequest_routes (fun _ _ hu => .ite (fun _ => reply_routes hu) fun _ => .ite (fun _ => reply_routes hu) fun _ =>
    reply_routes hu.setSite) h).answer

theorem directStep_routes {tag : Byte} {n : SiteId} {r : StepRecord} (h : RoutesSound s) :
    RoutesSound (directStep tag n r s) :=
  .ite (fun _ => reply_routes h) fun _ => .ite (fun _ => reply_routes h) fun _ => .ite (fun _ => reply_routes h) fun _ =>
    performStep_routes (reply_routes h.setSite)

theorem execDirect_routes {tag : Byte} {body : List Byte} (h : RoutesSound s) :
    AnswerRoutes (execDirect tag body s) := by
  refine (settle_routes (request_routes (fun u hu => ?_) h)).answer
  split
  · split
    · exact directStep_routes hu
    · exact reply_routes hu
  · exact hu

theorem execSiteClear_routes {tag : Byte} {body : List Byte} (h : RoutesSound s) :
    AnswerRoutes (execSiteClear tag body s) :=
  (settle_routes (siteRequest_routes (fun _ _ hu => .ite (fun _ => runTeardown_routes (reply_routes (teardownEntry_routes hu)))
    fun _ => reply_routes hu) h)).answer

theorem execVarSet_routes {tag : Byte} {body : List Byte} (h : RoutesSound s) :
    AnswerRoutes (execVarSet tag body s) := by
  refine (request_routes (fun u hu => ?_) h).answer
  split
  · split
    · exact .ite (fun _ => reply_routes hu) fun _ => .ite (fun _ => reply_routes hu) fun _ => reply_routes hu.setSite
    · exact reply_routes hu
  · exact hu

theorem execVarRead_routes {tag : Byte} {body : List Byte} (h : RoutesSound s) :
    AnswerRoutes (execVarRead tag body s) :=
  (siteRequest_routes (fun _ _ hu => reply_routes hu) h).answer

theorem retestFlags_routes {n : SiteId} (h : RoutesSound s) : RoutesSound (retestFlags n s) := by
  simp only [retestFlags]
  split
  · exact .ite (fun _ => flagsMatched_routes h.setSite) fun _ => h
  · exact h

theorem execFlagRaise_routes {tag : Byte} {body : List Byte} (h : RoutesSound s) :
    AnswerRoutes (execFlagRaise tag body s) := by
  refine (settle_routes (request_routes (fun u hu => ?_) h)).answer
  split
  · split
    · exact retestFlags_routes (reply_routes hu.setSite)
    · exact reply_routes hu
  · exact hu

theorem execFlagClear_routes {tag : Byte} {body : List Byte} (h : RoutesSound s) :
    AnswerRoutes (execFlagClear tag body s) := by
  refine (request_routes (fun u hu => ?_) h).answer
  split
  · split
    · exact reply_routes hu.setSite
    · exact reply_routes hu
  · exact hu

theorem execSafeOrder_routes {n : SiteId} (h : RoutesSound s) : AnswerRoutes (execSafeOrder n s) := by
  unfold execSafeOrder
  split
  · exact h.answer
  · exact (settle_routes (enterTeardown_routes h.other)).answer

theorem execDelayExpiry_routes {n : SiteId} (h : RoutesSound s) : AnswerRoutes (execDelayExpiry n s) := by
  unfold execDelayExpiry
  split
  · exact (whenRun_routes (fun _ hu => settle_routes (finishStep_routes hu)) h).answer
  · exact h.answer

theorem execWaitFlagTimeout_routes {n : SiteId} (h : RoutesSound s) : AnswerRoutes (execWaitFlagTimeout n s) := by
  unfold execWaitFlagTimeout
  split
  · exact (whenRun_routes (fun _ hu => settle_routes (finishStep_routes hu)) h).answer
  · exact h.answer

theorem execStepWatchdogExpiry_routes {n : SiteId} (h : RoutesSound s) : AnswerRoutes (execStepWatchdogExpiry n s) := by
  unfold execStepWatchdogExpiry
  split
  · exact (whenRun_routes (fun _ hu => settle_routes (enterTeardown_routes hu.setLink)) h).answer
  · exact h.answer

theorem execQuietOutcome_routes {i : InstrId} (h : RoutesSound s) : AnswerRoutes (execQuietOutcome i s) := by
  unfold execQuietOutcome
  split
  · exact h.answer
  · exact (settle_routes (.ite (fun _ => .ite (fun _ => breakPhase_routes h.setPort.setSite) fun _ => h.setPort.setSite)
      fun _ => h.setPort)).answer

theorem execGrantEvent_routes {n : SiteId} {i : InstrId} (h : RoutesSound s) : AnswerRoutes (execGrantEvent n i s) := by
  unfold execGrantEvent
  split
  · split
    · exact (settle_routes (finishStep_routes h.setSite)).answer
    · exact h.answer
  · exact h.answer

/-! ### The route timers and the relay chain -/

theorem passTo_route (t : Timer) (e : EntryId) : (s.passTo t).route e = s.route e := by
  rw [passTo_eq]
  rfl

theorem passTo_routes (t : Timer) (h : RoutesSound s) : RoutesSound (s.passTo t) := by
  rw [passTo_eq]
  exact h.other

/-- The route that a make timer is about is the one in use when time has passed to its expiry (R62). -/
theorem execMakeTimerExpiry_routes {e : EntryId} (h : RoutesSound s) : AnswerRoutes (execMakeTimerExpiry e s) := by
  unfold execMakeTimerExpiry
  split
  · rename_i r hr
    split
    · rename_i t hm _
      refine RoutesSound.answer (.ite (fun _ => settle_routes ?_) fun _ => h)
      exact routeMade_routes (passTo_routes t h) ((passTo_route t e).trans hr) hm
    · exact h.answer
  · exact h.answer

theorem execReleaseTimerExpiry_routes {e : EntryId} (h : RoutesSound s) :
    AnswerRoutes (execReleaseTimerExpiry e s) := by
  unfold execReleaseTimerExpiry
  split
  · rename_i r hr
    split
    · rename_i t hb _
      refine RoutesSound.answer (.ite (fun _ => settle_routes ?_) fun _ => h)
      exact routeGone_routes (passTo_routes t h) ((passTo_route t e).trans hr) hb
    · exact h.answer
  · exact h.answer

theorem discoverCard_routes {k : CardId} {answer : Option CardAnswer} (h : RoutesSound s) :
    RoutesSound (discoverCard k answer s) := by
  simp only [discoverCard]
  split
  · exact h.setCard
  · exact .ite (fun _ => h.setCard) fun _ => (cardFault_routes h.setCard).setCard

theorem execDiscoveryEnd_routes {answers : Vector (Option CardAnswer) 16} (h : RoutesSound s) :
    AnswerRoutes (execDiscoveryEnd answers s) := by
  unfold execDiscoveryEnd
  split
  · exact (settle_routes (chainKick_routes (RoutesSound.setChain (h.foldl fun _ _ => discoverCard_routes)))).answer
  · exact h.answer

theorem execWriteFrameSent_routes (h : RoutesSound s) : AnswerRoutes (execWriteFrameSent s) := by
  unfold execWriteFrameSent
  split
  · split <;> exact h.setChain.answer
  · exact h.answer

theorem execLatch_routes (h : RoutesSound s) : AnswerRoutes (execLatch s) := by
  unfold execLatch
  split
  · dsimp only
    split
    · exact h.setChain.answer
    · exact (settle_routes (completePass_routes h.setChain)).answer
  · exact h.answer

theorem execReadFrameAnswer_routes {answer : Option CardAnswer} (h : RoutesSound s) :
    AnswerRoutes (execReadFrameAnswer answer s) := by
  unfold execReadFrameAnswer
  split
  · split
    · rename_i k _
      have judged : RoutesSound (if s.chain.verifySet.getLsbD k.val then
          judgeCard k answer (s.setChain { s.chain with cursor := k.val + 1 })
          else s.setChain { s.chain with cursor := k.val + 1 }) :=
        .ite (fun _ => judgeCard_routes h.setChain) fun _ => h.setChain
      dsimp only
      split
      · exact (settle_routes judged).answer
      · exact (settle_routes (completePass_routes judged)).answer
    · exact (settle_routes (completePass_routes h)).answer
  · exact h.answer

theorem execRefreshExpiry_routes (h : RoutesSound s) : AnswerRoutes (execRefreshExpiry s) := by
  unfold execRefreshExpiry
  split
  · split
    · exact h.answer
    · exact (whenRun_routes (fun _ hu => chainKick_routes hu.setChain) h).answer
  · exact h.answer

/-! ### Instrument records and ports -/

theorem disablePort_routes {i : InstrId} (h : RoutesSound s) : RoutesSound (disablePort i s) :=
  .ite (fun _ => portFreed_routes (notice_routes h.setPort)) fun _ => notice_routes h.setPort

theorem replaceRecord_routes {i : InstrId} {r : InstrRecord} (h : RoutesSound s) :
    RoutesSound (replaceRecord i r s) := by
  have replaced : RoutesSound (State.setPort { s with records := s.records.set i r } i
      { s.port i with source := sourceAfterSet (s.record i) r (s.port i).source }) := .setPort h.other
  exact .ite (fun _ => .ite (fun _ => replaced.setPort.setPort) fun _ => replaced) fun _ =>
    .ite (fun _ => replaced) fun _ => disablePort_routes replaced

theorem execInstrSet_routes {tag : Byte} {body : List Byte} (h : RoutesSound s) :
    AnswerRoutes (execInstrSet tag body s) := by
  refine (settle_routes (request_routes (fun u hu => ?_) h)).answer
  split
  · split
    · exact .ite (fun _ => reply_routes hu) fun _ => .ite (fun _ => reply_routes hu) fun _ =>
        reply_routes (replaceRecord_routes hu)
    · exact reply_routes hu
  · exact hu

theorem execResponseTimeout_routes {i : InstrId} (h : RoutesSound s) : AnswerRoutes (execResponseTimeout i s) := by
  unfold execResponseTimeout
  split
  · split
    · exact (whenRun_routes (fun _ hu => settle_routes (exchangeTimedOut_routes hu)) h).answer
    · exact h.answer
  · exact h.answer

theorem execCancelSent_routes {i : InstrId} (h : RoutesSound s) : AnswerRoutes (execCancelSent i s) := by
  unfold execCancelSent
  split
  · exact (settle_routes (cancelEnded_routes h)).answer
  · exact h.answer

theorem execProbeTimerExpiry_routes {i : InstrId} (h : RoutesSound s) : AnswerRoutes (execProbeTimerExpiry i s) := by
  unfold execProbeTimerExpiry
  split
  · exact (whenRun_routes (fun _ hu => hu.setPort.setPort) h).answer
  · exact h.answer

theorem execRdyRawChange_routes {i : InstrId} {level : Bool} (h : RoutesSound s) :
    AnswerRoutes (execRdyRawChange i level s) := by
  unfold execRdyRawChange
  dsimp only
  split
  · exact h.answer
  · split
    · exact (rdyChanged_routes h.setPort).answer
    · exact h.setPort.answer

theorem execRdyFilteredChange_routes {i : InstrId} (h : RoutesSound s) : AnswerRoutes (execRdyFilteredChange i s) := by
  unfold execRdyFilteredChange
  dsimp only
  split
  · exact h.answer
  · exact (whenRun_routes (fun _ hu => rdyChanged_routes hu) h).answer

theorem execTriggerPulseEnd_routes {i : InstrId} (h : RoutesSound s) : AnswerRoutes (execTriggerPulseEnd i s) := by
  unfold execTriggerPulseEnd
  split
  · exact (whenRun_routes (fun _ hu => hu.setPort) h).answer
  · exact h.answer

theorem execTriggerSpacing_routes {i : InstrId} (h : RoutesSound s) : AnswerRoutes (execTriggerSpacing i s) := by
  unfold execTriggerSpacing
  split
  · split
    · exact (whenRun_routes (fun _ hu => hu.setPort) h).answer
    · exact h.answer
  · exact h.answer

/-! ### The fixture -/

theorem execInputRawChange_routes {l : LineId} {level : Bool} (h : RoutesSound s) :
    AnswerRoutes (execInputRawChange l level s) := by
  unfold execInputRawChange
  dsimp only
  split
  · exact h.answer
  · split
    · exact (settle_routes (judgeLine_routes h.setLine)).answer
    · exact h.setLine.answer

theorem changeDue_routes {l : LineId} (h : RoutesSound s) : RoutesSound (changeDue l s) := by
  unfold changeDue
  split
  · exact whenRun_routes (fun _ hu => settle_routes (judgeLine_routes hu)) h
  · exact h

theorem lidDue_routes {toClosed : Bool} (h : RoutesSound s) : RoutesSound (lidDue toClosed s) :=
  .ite (fun _ => h) fun _ => changeDue_routes h

theorem execInputsSet_routes {tag : Byte} {body : List Byte} (h : RoutesSound s) :
    AnswerRoutes (execInputsSet tag body s) := by
  refine (settle_routes (request_routes (fun u hu => ?_) h)).answer
  split
  · exact reply_routes (RoutesSound.foldl (fun _ _ => judgeLine_routes) hu.other)
  · exact reply_routes hu

theorem busDone_routes {items : List BusItem} (h : RoutesSound s) :
    RoutesSound (busDone items s) := h.sameIdentity id rfl

theorem loadRefused_routes {before : Nat} {k : Fin 4} (h : RoutesSound s) : RoutesSound (loadRefused before k s) := by
  have cut : RoutesSound (transferRefused (before + k) s) := h.sameIdentity id rfl
  exact cut.sameIdentity id rfl

theorem execLoadHeaderDone_routes {answer : MemoryAnswer} (h : RoutesSound s) :
    AnswerRoutes (execLoadHeaderDone answer s) := by
  unfold execLoadHeaderDone
  split
  · split
    · exact (settle_routes (endLoad_invalid (loadRefused_routes h))).answer
    · split
      · exact (settle_routes (headerRead_routes (busDone_routes h))).answer
      · exact h.answer
  · exact h.answer

theorem execLoadBodyDone_routes {answer : MemoryAnswer} (h : RoutesSound s) :
    AnswerRoutes (execLoadBodyDone answer s) := by
  unfold execLoadBodyDone
  split
  · split
    · exact (settle_routes (endLoad_invalid (loadRefused_routes h))).answer
    · split
      · exact (settle_routes (bodyRead_routes (busDone_routes h))).answer
      · exact h.answer
    · exact h.answer
  · exact h.answer

theorem execFixtureRead_routes {tag : Byte} {body : List Byte} (h : RoutesSound s) :
    AnswerRoutes (execFixtureRead tag body s) :=
  (request_routes (fun _ hu => reply_routes hu) h).answer

theorem execFixtureDefine_routes {tag : Byte} {body : List Byte} (h : RoutesSound s) :
    AnswerRoutes (execFixtureDefine tag body s) := by
  refine (request_routes (fun u hu => ?_) h).answer
  split
  · exact reply_routes hu
  · rename_i i hi
    exact .ite (fun _ => reply_routes hu) fun _ => .ite (fun _ => reply_routes hu) fun _ =>
      reply_routes (putEmulated_routes hi hu)

theorem execFixtureReload_routes {tag : Byte} {body : List Byte} (h : RoutesSound s) :
    AnswerRoutes (execFixtureReload tag body s) :=
  (request_routes (fun _ hu => .ite (fun _ => reply_routes hu) fun _ => .ite (fun _ => reply_routes hu) fun _ =>
    .ite (fun _ => reply_routes hu) fun _ => reloadFixture_routes (reply_routes hu)) h).answer

theorem execFixmemTake_routes {tag : Byte} {body : List Byte} (h : RoutesSound s) :
    AnswerRoutes (execFixmemTake tag body s) :=
  (request_routes (fun _ hu => .ite (fun _ => reply_routes hu) fun _ => .ite (fun _ => reply_routes hu) fun _ =>
    reply_routes (setOwner_routes hu)) h).answer

theorem execFixmemGive_routes {tag : Byte} {body : List Byte} (h : RoutesSound s) :
    AnswerRoutes (execFixmemGive tag body s) :=
  (request_routes (fun _ hu => .ite (fun _ => reply_routes (setOwner_routes hu)) fun _ => reply_routes hu) h).answer

theorem execFixmemRead_routes {tag : Byte} {body : List Byte} (h : RoutesSound s) :
    AnswerRoutes (execFixmemRead tag body s) := by
  refine (request_routes (fun u hu => ?_) h).answer
  split
  · exact .ite (fun _ => reply_routes hu) fun _ => .ite (fun _ => reply_routes hu) fun _ => takeMemory_routes hu
  · exact hu

theorem execFixmemWrite_routes {tag : Byte} {body : List Byte} (h : RoutesSound s) :
    AnswerRoutes (execFixmemWrite tag body s) := by
  refine (request_routes (fun u hu => ?_) h).answer
  split
  · exact .ite (fun _ => reply_routes hu) fun _ => .ite (fun _ => reply_routes hu) fun _ => takeMemory_routes hu
  · exact hu

theorem transferRefused_routes {k : Nat} (h : RoutesSound s) :
    RoutesSound (transferRefused k s) := h.sameIdentity id rfl

theorem execFixmemReadDone_routes {answer : MemoryAnswer} (h : RoutesSound s) :
    AnswerRoutes (execFixmemReadDone answer s) := by
  unfold execFixmemReadDone
  split
  · exact (settle_routes (endTransfer_routes (transferRefused_routes h))).answer
  · split
    · exact (settle_routes (endTransfer_routes (busDone_routes h))).answer
    · exact h.answer
  · exact h.answer

theorem execFixmemWriteDone_routes {refused : Option Nat} (h : RoutesSound s) :
    AnswerRoutes (execFixmemWriteDone refused s) := by
  unfold execFixmemWriteDone
  split
  · exact RoutesSound.answer (RoutesSound.sameIdentity (busDone_routes h) id rfl)
  · split
    · exact (settle_routes (endTransfer_routes (transferRefused_routes h))).answer
    · exact h.answer
  · exact h.answer

theorem execFixmemWritePoll_routes {ack : Bool} (h : RoutesSound s) : AnswerRoutes (execFixmemWritePoll ack s) := by
  unfold execFixmemWritePoll
  split
  · exact (whenRun_routes (fun _ hu => pollAnswered_routes hu) h).answer
  · exact h.answer

/-! ### The resets -/

/-- A soft reset leaves no route, and no identity in force (R75, R177). -/
theorem execSoftResetEffect_routes (h : RoutesSound s) : AnswerRoutes (execSoftResetEffect s) := by
  have reset : RoutesSound (softResetTaken s) := by
    rw [(softResetTaken_to s).only]
    exact routesSound_of_empty _ rfl rfl (Fixture.softReset_inForce ..)
  unfold execSoftResetEffect
  split
  · exact reset.answer
  · exact reset.answer
  · exact h.answer

theorem execPowerOnReset_routes {rate1 rate0 : Bool} {lines : BitVec 17} {rdy : BitVec 6} :
    AnswerRoutes (execPowerOnReset rate1 rate0 lines rdy s) := by
  have powered := (powerOnValues_sound (rateOf rate1 rate0) lines rdy).routes
  have lid : RoutesSound (lidAtReset (State.powerOnValues (rateOf rate1 rate0) lines rdy)) :=
    .ite (fun _ => beginLoad_routes powered) fun _ => powered.other
  exact RoutesSound.answer lid.other

/-! ### Commands and steps -/

theorem exec_routes (c : Instr) (h : RoutesSound s) : AnswerRoutes (exec c s) := by
  cases c with
  | powerOnReset => exact execPowerOnReset_routes
  | unknownKindFrame => exact execUnknownKindFrame_routes h
  | ident => exact execIdent_routes h
  | countersRead => exact execCountersRead_routes h
  | fixtureRead => exact execFixtureRead_routes h
  | statusSummary | statusSites | statusInstruments | statusRoutes | statusCards | statusInputs =>
    exact (statusRequest_routes h).answer
  | countersClearLink | countersClearWatchdog | countersClearPort | countersClearCard =>
    exact (countersClearRequest_routes h).answer
  | softReset => exact execSoftReset_routes h
  | softResetEffect => exact execSoftResetEffect_routes h
  | watchdogSet => exact execWatchdogSet_routes h
  | stepsLoad => exact execStepsLoad_routes h
  | stepsRead => exact execStepsRead_routes h
  | routedefLoad => exact execRoutedefLoad_routes h
  | limitsLoad => exact execLimitsLoad_routes h
  | calSet => exact execCalSet_routes h
  | calRead => exact execCalRead_routes h
  | instrSet => exact execInstrSet_routes h
  | cardSetCard | cardSetChain => exact (cardSetRequest_routes h).answer
  | cardReset => exact execCardReset_routes h
  | wearRead => exact execWearRead_routes h
  | wearLoad => exact execWearLoad_routes h
  | siteSet => exact execSiteSet_routes h
  | start => exact execStart_routes h
  | abort => exact execAbort_routes h
  | manual => exact execManual_routes h
  | direct => exact execDirect_routes h
  | siteClear => exact execSiteClear_routes h
  | varSet => exact execVarSet_routes h
  | varRead => exact execVarRead_routes h
  | flagRaise => exact execFlagRaise_routes h
  | flagClear => exact execFlagClear_routes h
  | fetch => exact execFetch_routes h
  | fixtureDefine => exact execFixtureDefine_routes h
  | fixtureReload => exact execFixtureReload_routes h
  | fixmemTake => exact execFixmemTake_routes h
  | fixmemGive => exact execFixmemGive_routes h
  | fixmemRead => exact execFixmemRead_routes h
  | fixmemWrite => exact execFixmemWrite_routes h
  | inputsSet => exact execInputsSet_routes h
  | safeEnter => exact execSafeEnter_routes h
  | safeLeave => exact execSafeLeave_routes h
  | goodFrameArrival | frameLengthDrop => exact (receive_routes h).answer
  | fragmentGapExpiry => exact execFragmentGapExpiry_routes h
  | frameSent => exact execFrameSent_routes h
  | linkWatchdogExpiry => exact execLinkWatchdogExpiry_routes h
  | safeOrder => exact execSafeOrder_routes h
  | delayExpiry => exact execDelayExpiry_routes h
  | waitFlagTimeout => exact execWaitFlagTimeout_routes h
  | stepWatchdogExpiry => exact execStepWatchdogExpiry_routes h
  | quietOutcome => exact execQuietOutcome_routes h
  | grantEvent => exact execGrantEvent_routes h
  | makeTimerExpiry => exact execMakeTimerExpiry_routes h
  | releaseTimerExpiry => exact execReleaseTimerExpiry_routes h
  | discoveryEnd => exact execDiscoveryEnd_routes h
  | writeFrameSent => exact execWriteFrameSent_routes h
  | latch => exact execLatch_routes (s := s) h
  | readFrameAnswer => exact execReadFrameAnswer_routes h
  | refreshExpiry => exact execRefreshExpiry_routes h
  | portAck | portNak | portValue | portIdent | portUnknownKindMessage | portBadChecksum =>
    exact (portReceive_routes h).answer
  | responseTimeout => exact execResponseTimeout_routes h
  | cancelSent => exact execCancelSent_routes h
  | probeTimerExpiry => exact execProbeTimerExpiry_routes h
  | rdyRawChange => exact execRdyRawChange_routes h
  | rdyFilteredChange => exact execRdyFilteredChange_routes h
  | triggerPulseEnd => exact execTriggerPulseEnd_routes h
  | triggerSpacing => exact execTriggerSpacing_routes h
  | inputRawChange => exact execInputRawChange_routes h
  | seatChange | startChange => exact (changeDue_routes h).answer
  | lidOpen | lidClose => exact (lidDue_routes h).answer
  | loadHeaderDone => exact execLoadHeaderDone_routes h
  | loadBodyDone => exact execLoadBodyDone_routes h
  | fixmemReadDone => exact execFixmemReadDone_routes h
  | fixmemWriteDone => exact execFixmemWriteDone_routes h
  | fixmemWritePoll => exact execFixmemWritePoll_routes h

theorem idleStep_routes (h : RoutesSound s) : AnswerRoutes (idleStep s) := by
  unfold idleStep
  split
  · split
    · exact exec_routes _ h
    · exact RoutesSound.answer h.other
  · exact (settle_routes h).answer

/-- A step keeps the node map, the live routes, the commanded image and the windows in agreement, from any state in which they
agree. -/
theorem step_routes (h : RoutesSound s) : AnswerRoutes (step s) := by
  unfold step
  split
  · exact exec_routes _ h.other
  · exact idleStep_routes h

/-- Settles O60: of the invariants of `Sound` the step lemma needs that of the routes alone. -/
theorem stepsKeepTheRoutesSound : Obligations.StepsKeepTheRoutesSound :=
  fun _ t hs ht => (step_routes hs.routes).sound t ht

end Sys2Proof.Machine
end

section
/-! LID changes and the beginning of a load (O51; R54, R159, R166 to R168, R170). -/

namespace Sys2Proof.Machine

variable (s : State)

/-! ### A change of LID that is due -/

theorem passTo_fixture (t : Timer) : (s.passTo t).fixture = s.fixture := by rw [passTo_eq]

/-- LID takes no change while the engine is BUSY, and each of its two events only the change of its direction (R159). -/
theorem lidDue_refused (toClosed : Bool)
    (h : s.fixture.busy = true ∨ decide ((s.line 16).raw = (s.line 16).polarity) ≠ toClosed) : lidDue toClosed s = s :=
  if_pos (h.imp_right fun hd => by rwa [← beq_eq_decide] at hd)

theorem lidDue_taken (toClosed : Bool) (hb : s.fixture.busy = false)
    (hd : decide ((s.line 16).raw = (s.line 16).polarity) = toClosed) : lidDue toClosed s = changeDue 16 s := by
  refine if_neg ?_
  rw [hb, beq_eq_decide]
  exact fun h => h.elim (by simp) fun hne => hne hd

/-- Nothing of LID changes while the engine is BUSY, without a pending change, or before its expiry. -/
theorem lidDue_idle (toClosed : Bool) (h : s.fixture.busy = true ∨ (s.line 16).raw = (s.line 16).filtered ∨
    s.reaches (s.line 16).changeTimer = false) : lidDue toClosed s = s := by
  by_cases hdir : s.fixture.busy = true ∨ decide ((s.line 16).raw = (s.line 16).polarity) ≠ toClosed
  · exact lidDue_refused s toClosed hdir
  · rw [not_or, not_not] at hdir
    rw [lidDue_taken s toClosed (Bool.eq_false_iff.2 hdir.1) hdir.2]
    exact changeDue_idle s 16 (h.resolve_left hdir.1)

/-- A change that leaves the state of LID as it is (log entry 14). -/
theorem lidDue_same (toClosed : Bool) (hb : s.fixture.busy = false)
    (hd : decide ((s.line 16).raw = (s.line 16).polarity) = toClosed) (hr : s.reaches (s.line 16).changeTimer = true)
    (h : (s.line 16).raw ≠ (s.line 16).filtered) (ha : (s.line 16).active = toClosed) : lidDue toClosed s =
      settle ((s.passTo (s.line 16).changeTimer).setLine 16 { s.line 16 with filtered := (s.line 16).raw }) := by
  rw [lidDue_taken s toClosed hb hd, changeDue_reached s 16 h hr,
    judgeLine_same _ 16 true (.inr (by rw [passTo_fixture, hb])) _ (due_level s 16 h) (by rw [passTo_line, hd, ha]),
    passTo_line]

/-- A change of the state of LID is handed on. -/
theorem lidDue_changed (toClosed : Bool) (hb : s.fixture.busy = false)
    (hd : decide ((s.line 16).raw = (s.line 16).polarity) = toClosed) (hr : s.reaches (s.line 16).changeTimer = true)
    (h : (s.line 16).raw ≠ (s.line 16).filtered) (ha : (s.line 16).active ≠ toClosed) : lidDue toClosed s =
      settle (acceptChange 16 (s.line 16).raw toClosed true (s.passTo (s.line 16).changeTimer)) := by
  rw [lidDue_taken s toClosed hb hd, changeDue_reached s 16 h hr,
    judgeLine_changed _ 16 true (.inr (by rw [passTo_fixture, hb])) _ (due_level s 16 h)
      (by rw [passTo_line, hd]; exact ha.symm), passTo_line, hd]

/-! ### What a change of LID does -/

/-- The INPUT notice of LID: it names no site, and no press (R160). -/
theorem inputNotice_lid (active : Bool) : inputNotice 16 active .notStart s = notice 0x84
    ([Config.code .lineKind 2, 0xFF, Config.code .lineState (if active then 4 else 5), 0xFF, 0xFF, 0xFF, 0xFF] ++
      le32 s.time.toNat) s := by
  cases active <;> rfl

theorem notice_fixture (kind : Byte) (body : List Byte) : (notice kind body s).fixture = s.fixture := by rw [notice_only]

theorem safeAdd_fixture (c : SafeCause) : (safeAdd c s).fixture = s.fixture := by
  unfold safeAdd
  split
  · rfl
  · have told := notice_fixture { s with safe := s.safe.assign true c }
    split <;> exact told ..

theorem safeRemove_fixture (c : SafeCause) : (safeRemove c s).fixture = s.fixture := by
  unfold safeRemove
  split
  · exact notice_fixture { s with safe := s.safe.assign false c } ..
  · rfl

theorem acceptChange_lidOpen (level mayPress : Bool) :
    acceptChange 16 level false mayPress s = lidOpened (s.setLine 16 ((s.line 16).accepted level false)) := rfl

theorem acceptChange_lidClose (level mayPress : Bool) :
    acceptChange 16 level true mayPress s = lidShut (s.setLine 16 ((s.line 16).accepted level true)) := rfl

/-- An accepted opening, `v` with the INPUT notice and the safe cause: a waiting load is dropped, every site judged (R166). -/
theorem lidOpened_eq (v : State) (hv : safeAdd .lid (inputNotice 16 false .notStart s) = v) : lidOpened s = judgeAll
    (if s.fixture.state = .loading ∧ s.fixture.loadStep = some .waiting then
      fixtureNotice (v.setFixture { v.fixture with state := .noIdentity, loadStep := none })
    else v) := by
  have hfixture : v.fixture = s.fixture := by
    rw [← hv, safeAdd_fixture]
    exact notice_fixture ..
  rw [← hfixture]
  subst hv
  rfl

/-- An accepted close, `w` with the INPUT notice, the safe cause removed and the memory the monitor's: a load begins unless
the identity is EMULATED (R167). -/
theorem lidShut_eq (v : State) (hv : safeRemove .lid (inputNotice 16 true .notStart s) = v) :
    let w := v.setFixture { v.fixture with owner := .monitor }
    lidShut s = judgeAll (if s.fixture.state = .emulated then w else beginLoad w) := by
  have hfixture : v.fixture = s.fixture := by
    rw [← hv, safeRemove_fixture]
    exact notice_fixture ..
  rw [← hfixture]
  subst hv
  rfl

/-! ### Loads -/

theorem fixtureNotice_eq : fixtureNotice s = notice 0x85
    ([Config.code .fixtureState (fixtureStateCode s.fixture.state)] ++
      (match s.fixture.loadCause with | some c => [Config.code .loadCause (loadCauseCode c)] | none => [0xFF]) ++
      (match s.fixture.held with
        | some i => le16 i.header.type.toNat ++ le32 i.header.serial.toNat ++ [i.header.revision, i.header.siteCount]
        | none => .replicate 8 0xFF) ++ le32 s.time.toNat) s := by
  simp only [fixtureNotice]
  cases s.fixture.loadCause <;> cases s.fixture.held <;> rfl

theorem beginLoad_empty (h : s.routes.entries = []) : beginLoad s = beginHeader s := by simp [beginLoad, h]

theorem beginLoad_waits (h : s.routes.entries ≠ []) :
    beginLoad s = s.setFixture { s.fixture with state := .loading, loadStep := some .waiting, headerBytes := [] } := by
  simp [beginLoad, h]

/-- The load that waits begins its HEADER read when the last live route is gone (R54, R168). -/
theorem listEmptied_eq : listEmptied s =
    if s.routes.entries = [] ∧ s.fixture.state = .loading ∧ s.fixture.loadStep = some .waiting then beginHeader s else s := by
  simp [listEmptied]

/-- The HEADER read of a load that stands in LOADING already. -/
theorem beginHeader_loading (h : s.fixture.state = .loading) : beginHeader s = { s with fixture := { s.fixture with
    loadStep := some .header, headerBytes := [], busy := true, lastCommand := some (.loadHeader, 0, 9)
    error := none, sent := [.start, .byte 0xB8, .byte 0, .byte 0, .start, .byte 0xB9] } } := by
  unfold beginHeader
  rw [← h]
  rfl

/-- Settles O51: a change of LID by what `lidDue` does with it, then the notice and the load. -/
theorem lidChangesBeginLoads : Obligations.LidChangesBeginLoads := by
  refine ⟨fun s => ?_, fixtureNotice_eq, beginLoad_empty, beginLoad_waits, fun s => ?_⟩
  · intro x u report reached
    have opens (h : x.raw ≠ x.polarity) : decide (x.raw = x.polarity) = false := decide_eq_false h
    have closes (h : x.raw = x.polarity) : decide (x.raw = x.polarity) = true := decide_eq_true h
    refine ⟨fun h => ⟨?_, ?_⟩, fun h => ?_, fun h => ?_, ?_, ?_, ?_⟩
    · exact congrArg (.next · : State → Answer) (lidDue_idle s false h)
    · exact congrArg (.next · : State → Answer) (lidDue_idle s true h)
    · exact congrArg (.next · : State → Answer) (lidDue_refused s false (.inr (by rw [closes h]; decide)))
    · exact congrArg (.next · : State → Answer) (lidDue_refused s true (.inr (by rw [opens h]; decide)))
    · intro hb hr hf ha v
      refine ⟨fun h => ?_, fun h => ?_⟩
      · exact congrArg (.next · : State → Answer) (lidDue_same s false hb (opens h) hr hf (ha.trans (opens h)))
      · exact congrArg (.next · : State → Answer) (lidDue_same s true hb (closes h) hr hf (ha.trans (closes h)))
    · intro hb hr hf h ha v
      have changed := lidDue_changed s false hb (opens h) hr hf (by rw [ha]; decide)
      have told := inputNotice_lid (u.setLine 16 (x.accepted x.raw false)) false
      have handed := lidOpened_eq (u.setLine 16 (x.accepted x.raw false)) v (congrArg (safeAdd .lid) told)
      rw [acceptChange_lidOpen, passTo_line] at changed
      rw [State.setLine_fixture, passTo_fixture] at handed
      exact congrArg (.next · : State → Answer) (changed.trans (congrArg settle handed))
    · intro hb hr hf h ha v w
      have changed := lidDue_changed s true hb (closes h) hr hf (by rw [ha]; decide)
      have told := inputNotice_lid (u.setLine 16 (x.accepted x.raw true)) true
      have handed := lidShut_eq (u.setLine 16 (x.accepted x.raw true)) v (congrArg (safeRemove .lid) told)
      rw [acceptChange_lidClose, passTo_line] at changed
      rw [State.setLine_fixture, passTo_fixture] at handed
      exact congrArg (.next · : State → Answer) (changed.trans (congrArg settle handed))
  · rw [listEmptied_eq]
    split
    · rename_i h
      exact beginHeader_loading s h.2.1
    · rfl

end Sys2Proof.Machine
end

section
/-! CONNECT and DISCONNECT (O34; R54 to R58, R63 to R65). -/

namespace Sys2Proof.Machine

variable (s : State)

/-! ### The checks of CONNECT -/

/-- The route that a CONNECT of definition `d` asks for, on its bus and its physical nodes (R58). -/
def RouteDef.planned (x : RouteDef) (n : SiteId) (d : Byte) (bus : BusId) (nodes : List Nat) : LiveRoute :=
  { site := n, definition := d, inst := x.inst, terminal := x.terminal, bus := bus, nodes := nodes, settle := x.settle
    state := .making, pendingPass := true, timer := none, madeAt := none, zero := none }

/-- Checks 1 to 3: a definition, of an instrument that the site holds, with a bus for its terminal. -/
theorem connectAnswer_undefined (n : SiteId) (d : Byte) (h : s.routeDefs.get d.toNat = none) :
    connectAnswer s n d = .error .badStep := by
  simp only [connectAnswer, h]

theorem connectAnswer_notHeld (n : SiteId) (d : Byte) (x : RouteDef) (hx : s.routeDefs.get d.toNat = some x)
    (h : (s.lease x.inst).holder ≠ some n) : connectAnswer s n d = .error .noLease := by
  simp only [connectAnswer, hx, Bool.eq_false_iff.2 (mt (s.holds_iff n x.inst).1 h), Bool.not_false, if_true]

theorem connectAnswer_noBus (n : SiteId) (d : Byte) (x : RouteDef) (hx : s.routeDefs.get d.toNat = some x)
    (hh : (s.lease x.inst).holder = some n) (h : (s.record x.inst).bus x.terminal = none) :
    connectAnswer s n d = .error .badStep := by
  simp only [connectAnswer, hx, (s.holds_iff n x.inst).2 hh, h, Bool.not_true, Bool.false_eq_true, if_false]

theorem translate_outside (w : Window) (nodes : List Nat) (h : ∃ a ∈ nodes, w.size ≤ a) : translate w nodes = none := by
  obtain ⟨a, ha, hle⟩ := h
  refine if_neg fun hall => ?_
  have := of_decide_eq_true (List.all_eq_true.1 hall a ha)
  omega

theorem translate_inside (w : Window) (nodes : List Nat) (h : ∀ a ∈ nodes, a < w.size) :
    translate w nodes = some (nodes.map (w.base + ·)) :=
  if_pos (List.all_eq_true.2 fun a ha => decide_eq_true (h a ha))

/-- The site holds the instrument of a definition that is loaded, and the terminal has a bus. -/
structure Connectable (n : SiteId) (d : Byte) (x : RouteDef) (bus : BusId) : Prop where
  loaded : s.routeDefs.get d.toNat = some x
  held : (s.lease x.inst).holder = some n
  wired : (s.record x.inst).bus x.terminal = some bus

/-- Check 4: every node of the definition lies in the site's window (R54). -/
theorem connectAnswer_window (n : SiteId) (d : Byte) (x : RouteDef) (bus : BusId) (hc : Connectable s n d x bus)
    (h : ∃ a ∈ x.nodes, (s.window n).size ≤ a) : connectAnswer s n d = .error .window := by
  simp only [connectAnswer, hc.loaded, (s.holds_iff n x.inst).2 hc.held, hc.wired, translate_outside _ _ h, Bool.not_true,
    Bool.false_eq_true, if_false]

/-- Past check 4 the cards, the guard and the safe state are looked at, then the entries and the nodes. -/
theorem connectAnswer_translated (n : SiteId) (d : Byte) (x : RouteDef) (bus : BusId) (hc : Connectable s n d x bus)
    (h : ∀ a ∈ x.nodes, a < (s.window n).size) : connectAnswer s n d =
      match guardCheck s (x.planned n d bus (x.nodes.map ((s.window n).base + ·))) with
      | some e => .error e
      | none => existingCheck s n d (x.planned n d bus (x.nodes.map ((s.window n).base + ·))) := by
  simp only [connectAnswer, hc.loaded, (s.holds_iff n x.inst).2 hc.held, hc.wired, translate_inside _ _ h, Bool.not_true,
    Bool.false_eq_true, if_false]
  rfl

/-! ### Checks 5 to 7: the cards, the guard, the safe state (R55, R56) -/

theorem cardsCheck_absent (nodes : List Nat) (h : ∃ a ∈ nodes, (s.card (cardOf a)).state = .absent) :
    cardsCheck s nodes = some .noCard :=
  if_pos (by simpa using h)

theorem cardsCheck_fault (nodes : List Nat) (ha : ∀ a ∈ nodes, (s.card (cardOf a)).state ≠ .absent)
    (h : ∃ a ∈ nodes, (s.card (cardOf a)).state = .fault) : cardsCheck s nodes = some .routeFault := by
  rw [cardsCheck, if_neg (by simpa using ha), if_pos (by simpa using h)]

theorem cardsCheck_active (nodes : List Nat) (h : ∀ a ∈ nodes, (s.card (cardOf a)).state = .active) :
    cardsCheck s nodes = none := by
  have absent : ¬ (nodes.any fun a => (s.card (cardOf a)).state == .absent) = true := by
    simp only [List.any_eq_true, beq_iff_eq, not_exists, not_and]
    exact fun a ha => by simp [h a ha]
  have fault : ¬ (nodes.any fun a => (s.card (cardOf a)).state == .fault) = true := by
    simp only [List.any_eq_true, beq_iff_eq, not_exists, not_and]
    exact fun a ha => by simp [h a ha]
  rw [cardsCheck, if_neg absent, if_neg fault]

theorem guardCheck_cards (r : LiveRoute) (e : StepError) (h : cardsCheck s r.nodes = some e) : guardCheck s r = some e := by
  simp only [guardCheck, h]

theorem guardCheck_hot (r : LiveRoute) (hc : cardsCheck s r.nodes = none) (h : (s.port r.inst).source ≠ .off) :
    guardCheck s r = some .hot := by
  simp only [guardCheck, hc, Bool.eq_false_iff.2 (mt (guardPasses_iff s r.inst).1 h), Bool.not_false, if_true]

theorem guardCheck_safe (r : LiveRoute) (hc : cardsCheck s r.nodes = none) (hg : (s.port r.inst).source = .off)
    (h : s.safe ≠ ⟨false, false, false⟩) : guardCheck s r = some .safe := by
  simp only [guardCheck, hc, (guardPasses_iff s r.inst).2 hg, (safe_holds_iff s.safe).2 h, Bool.not_true, Bool.false_eq_true,
    if_false, if_true]

theorem guardCheck_passes (r : LiveRoute) (hc : cardsCheck s r.nodes = none) (hg : (s.port r.inst).source = .off)
    (h : s.safe = ⟨false, false, false⟩) : guardCheck s r = none := by
  simp only [guardCheck, hc, (guardPasses_iff s r.inst).2 hg, h]
  rfl

/-! ### Checks 8 to 10: the entries and the nodes (R57) -/

/-- The site's entry for the definition that is in use and not BREAKING answers for the CONNECT. -/
theorem existingCheck_inUse (n : SiteId) (d : Byte) (r old : LiveRoute) (e : EntryId) (he : s.entryFor n d = some e)
    (ho : s.route e = some old) : existingCheck s n d r =
      match old.state with
      | .making | .made => .already
      | .faulted => .error .routeFault
      | .breaking => roomCheck s r := by
  cases hs : old.state <;> simp only [existingCheck, he, Option.bind_some, ho, hs]

theorem existingCheck_room (n : SiteId) (d : Byte) (r : LiveRoute)
    (h : ∀ e old, s.entryFor n d = some e → s.route e = some old → old.state = .breaking) :
    existingCheck s n d r = roomCheck s r := by
  cases he : s.entryFor n d with
  | none => simp only [existingCheck, he, Option.bind_none]
  | some e =>
    cases ho : s.route e with
    | none => simp only [existingCheck, he, Option.bind_some, ho]
    | some old => rw [existingCheck_inUse s n d r old e he ho, h e old he ho]

theorem roomCheck_full (r : LiveRoute) (h : s.freeEntry = none) : roomCheck s r = .error .routesFull := by
  simp only [roomCheck, h]

/-- A node held by an entry that is not BREAKING. -/
theorem nodesHeld_iff (nodes : List Nat) : (nodes.any fun p => (s.nodeState p).any (· != .breaking)) = true ↔
    ∃ a ∈ nodes, ∃ y, s.nodeState a = some y ∧ y ≠ .breaking := by
  simp [Option.any_eq_true]

theorem roomCheck_conflict (r : LiveRoute) (e : EntryId) (he : s.freeEntry = some e)
    (h : ∃ a ∈ r.nodes, ∃ y, s.nodeState a = some y ∧ y ≠ .breaking) : roomCheck s r = .error .conflict := by
  simp only [roomCheck, he, if_pos ((nodesHeld_iff s r.nodes).2 h)]

theorem not_nodesHeld (nodes : List Nat) (h : ∀ a ∈ nodes, s.nodeState a = none ∨ s.nodeState a = some .breaking) :
    ¬ (nodes.any fun p => (s.nodeState p).any (· != .breaking)) = true := by
  rw [nodesHeld_iff]
  rintro ⟨a, ha, y, hy, hne⟩
  rcases h a ha with hn | hb
  · rw [hn] at hy
    cases hy
  · rw [hb] at hy
    exact hne (Option.some.inj hy).symm

theorem roomCheck_busy (r : LiveRoute) (e : EntryId) (he : s.freeEntry = some e)
    (ha : ∀ a ∈ r.nodes, s.nodeState a = none ∨ s.nodeState a = some .breaking)
    (h : ∃ a ∈ r.nodes, s.nodeState a = some .breaking) : roomCheck s r = .nodesBusy r.nodes := by
  have busy : (r.nodes.any fun p => (s.nodeState p).isSome) = true := by
    obtain ⟨a, hmem, hb⟩ := h
    exact List.any_eq_true.2 ⟨a, hmem, by rw [hb]; rfl⟩
  simp only [roomCheck, he, if_neg (not_nodesHeld s r.nodes ha), if_pos busy]

theorem roomCheck_free (r : LiveRoute) (e : EntryId) (he : s.freeEntry = some e)
    (h : ∀ a ∈ r.nodes, s.nodeState a = none) : roomCheck s r = .create e r := by
  have free : ¬ (r.nodes.any fun p => (s.nodeState p).isSome) = true := by
    simp only [List.any_eq_true, not_exists, not_and]
    exact fun a ha => by simp [h a ha]
  simp only [roomCheck, he, if_neg (not_nodesHeld s r.nodes fun a ha => .inl (h a ha)), if_neg free]

/-! ### What CONNECT does with the answer -/

theorem connectStep_error (n : SiteId) (d : Byte) (e : StepError) (h : connectAnswer s n d = .error e) :
    connectStep n d s = stepError n e s := by
  simp only [connectStep, h]

theorem connectStep_already (n : SiteId) (d : Byte) (h : connectAnswer s n d = .already) :
    connectStep n d s = finishStep n false none s := by
  simp only [connectStep, h]

theorem connectStep_busy (n : SiteId) (d : Byte) (nodes : List Nat) (h : connectAnswer s n d = .nodesBusy nodes) :
    connectStep n d s = s.setSite n { s.site n with phase := .wait .node, needNodes := nodes } := by
  simp only [connectStep, h, waitFor, State.setSite_setSite, State.setSite_site_same]

theorem chainKick_eq : chainKick s =
    if s.chain.phase = .idle ∧ (s.chain.dirty = true ∨ s.chain.passDue = true) then beginPass s else s := by
  simp only [chainKick, Bool.and_eq_true, Bool.or_eq_true, beq_iff_eq]

/-- A created route has its nodes, its crosspoints and the dirty mark, and an idle chain begins a pass (R58, R81). -/
theorem createRoute_eq (e : EntryId) (r : LiveRoute) :
    let t : State := { s with
      routes := s.routes.put e r
      nodes := r.nodes.foldl (fun m a => m.put a ⟨r.bus, e⟩) s.nodes
      image := s.image.union r.crosspoints
      chain := { s.chain with dirty := true } }
    createRoute e r s = if s.chain.phase = .idle then beginPass t else t := by
  refine (chainKick_eq _).trans (if_congr ?_ rfl rfl)
  exact and_iff_left (.inl rfl)

theorem connectStep_create (n : SiteId) (d : Byte) (e : EntryId) (r : LiveRoute) (h : connectAnswer s n d = .create e r) :
    connectStep n d s = (createRoute e r s).setSite n { (createRoute e r s).site n with
      phase := .wait .settle, settleOn := some e, needNodes := [] } := by
  simp only [connectStep, h, waitFor, State.setSite_setSite, State.setSite_site_same]

/-- A check of the cards, the guard or the safe state fails a CONNECT whose checks 1 to 4 pass. -/
theorem connectStep_guarded (n : SiteId) (d : Byte) (x : RouteDef) (bus : BusId) (hc : Connectable s n d x bus)
    (hw : ∀ a ∈ x.nodes, a < (s.window n).size) (e : StepError)
    (he : guardCheck s (x.planned n d bus (x.nodes.map ((s.window n).base + ·))) = some e) :
    connectStep n d s = stepError n e s := by
  refine connectStep_error s n d e ?_
  rw [connectAnswer_translated s n d x bus hc hw, he]

theorem connectAnswer_guarded (n : SiteId) (d : Byte) (x : RouteDef) (bus : BusId) (hc : Connectable s n d x bus)
    (hw : ∀ a ∈ x.nodes, a < (s.window n).size)
    (he : guardCheck s (x.planned n d bus (x.nodes.map ((s.window n).base + ·))) = none) :
    connectAnswer s n d = existingCheck s n d (x.planned n d bus (x.nodes.map ((s.window n).base + ·))) := by
  rw [connectAnswer_translated s n d x bus hc hw, he]

/-! ### DISCONNECT -/

theorem breakEntries_one (e : EntryId) : breakEntries [e] s = chainKick (breakEntry s e) := rfl

theorem disconnectStep_none (n : SiteId) (d : Byte) (h : s.routeFor n d = none) :
    disconnectStep n d s = finishStep n false none s := by
  simp only [disconnectStep, h]

/-- The guard is asked for the route's instrument, then the route breaks (R63). -/
theorem disconnectStep_some (n : SiteId) (d : Byte) (e : EntryId) (r : LiveRoute) (he : s.routeFor n d = some e)
    (hr : s.route e = some r) : disconnectStep n d s =
      if (s.port r.inst).source = .off then finishStep n false none (chainKick (breakEntry s e)) else stepError n .hot s := by
  simp only [disconnectStep, he, hr, Option.any_some, guardPasses_iff, breakEntries_one]

/-- Every live route of the site is on an instrument that is OFF (R64). -/
theorem liveEntries_pass_iff (n : SiteId) :
    ((s.liveEntries n).all fun e => (s.route e).any fun r => s.guardPasses r.inst) = true ↔
      ∀ e r, s.route e = some r → r.site = n → r.state ≠ .breaking → (s.port r.inst).source = .off := by
  simp only [List.all_eq_true, mem_liveEntries, Option.any_eq_true, guardPasses_iff]
  constructor
  · intro h e r hr hn hl
    obtain ⟨q, hq, hoff⟩ := h e ⟨r, hr, hn, hl⟩
    rw [hr] at hq
    exact Option.some.inj hq ▸ hoff
  · rintro h e ⟨r, hr, hn, hl⟩
    exact ⟨r, hr, h e r hr hn hl⟩

theorem disconnectAllStep_eq (n : SiteId) : disconnectAllStep n s =
    if (s.liveEntries n).all fun e => (s.route e).any fun r => s.guardPasses r.inst then
      finishStep n false none (breakEntries (s.liveEntries n) s)
    else stepError n .hot s := rfl

/-- Settles O34: the checks of CONNECT in their order, the route it creates, and DISCONNECT under the guard. -/
theorem routesAreConnectedAndBroken : Obligations.RoutesAreConnectedAndBroken := by
  refine ⟨fun n d s => ⟨fun h => connectStep_error s n d _ (connectAnswer_undefined s n d h), fun x hx =>
    ⟨fun h => connectStep_error s n d _ (connectAnswer_notHeld s n d x hx h), fun hh =>
      ⟨fun h => connectStep_error s n d _ (connectAnswer_noBus s n d x hx hh h), fun bus hbus => ?_⟩⟩⟩,
    fun e r s hr hb => ?_, fun es s => ?_, fun n d s h => disconnectStep_none s n d h, fun n d e r s he hr => ?_,
    fun n s h => ?_, fun n s h => ?_⟩
  · have hc : Connectable s n d x bus := ⟨hx, hh, hbus⟩
    refine ⟨fun h => connectStep_error s n d _ (connectAnswer_window s n d x bus hc h), fun hw => ?_⟩
    intro nodes cardState
    let r := x.planned n d bus nodes
    have error : ∀ e, guardCheck s r = some e → _ := connectStep_guarded s n d x bus hc hw
    have answer : guardCheck s r = none → _ := connectAnswer_guarded s n d x bus hc hw
    refine ⟨fun h => error _ (guardCheck_cards s r _ (cardsCheck_absent s _ h)),
      fun ha h => error _ (guardCheck_cards s r _ (cardsCheck_fault s _ ha h)), fun hactive => ?_⟩
    have hcards : cardsCheck s r.nodes = none := cardsCheck_active s nodes hactive
    refine ⟨fun h => error _ (guardCheck_hot s r hcards h), fun hg h => error _ (guardCheck_safe s r hcards hg h),
      fun e old hg hs he ho => ?_, fun hg hs hold => ?_⟩
    · have existing := (answer (guardCheck_passes s r hcards hg hs)).trans (existingCheck_inUse s n d r old e he ho)
      refine ⟨fun h => connectStep_already s n d ?_, fun h => connectStep_error s n d _ ?_⟩
      · rcases h with h | h <;> rw [existing, h]
      · rw [existing, h]
    · have room := (answer (guardCheck_passes s r hcards hg hs)).trans (existingCheck_room s n d r hold)
      refine ⟨fun h => connectStep_error s n d _ (room.trans (roomCheck_full s r h)), fun e he => ⟨fun h => ?_,
        fun ha h => ?_, fun h => ?_⟩⟩
      · exact connectStep_error s n d _ (room.trans (roomCheck_conflict s r e he h))
      · exact connectStep_busy s n d _ (room.trans (roomCheck_busy s r e he ha h))
      · intro q t u
        have hu : createRoute e r s = u := createRoute_eq s e r
        rw [← hu]
        exact connectStep_create s n d e r (room.trans (roomCheck_free s r e he h))
  · exact breakEntry_live s e r hr (r.live_iff.2 hb)
  · unfold breakEntries
    simp only [List.isEmpty_iff, chainKick_eq]
  · rw [disconnectStep_some s n d e r he hr, chainKick_eq]
  · rw [disconnectAllStep_eq, if_neg]
    rw [liveEntries_pass_iff]
    obtain ⟨e, r, hr, hn, hl, hs⟩ := h
    exact fun hall => hs (hall e r hr hn hl)
  · rw [disconnectAllStep_eq, if_pos ((liveEntries_pass_iff s n).2 h)]
    rfl

end Sys2Proof.Machine
end

section
/-! The route timers, and what the site of an entry made or gone does (O35; R39, R59 to R62, R67, R71, R127). -/

namespace Sys2Proof.Machine

variable (s : State)

/-! ### Entries changed one after another -/

/-- The entry `e` of the live route list changes by `g`, and nothing else does. -/
structure EntryChanged (g : LiveRoute → LiveRoute) (e : EntryId) (s t : State) : Prop where
  only : t = { s with routes := t.routes }
  same : t.route e = (s.route e).map g
  other : ∀ f, f ≠ e → t.route f = s.route f

theorem EntryChanged.put {s : State} (g : LiveRoute → LiveRoute) (e : EntryId) (r : LiveRoute) (hr : s.route e = some r) :
    EntryChanged g e s (s.setRoutes (s.routes.put e.val (g r))) where
  only := rfl
  same := by rw [route_put, if_pos rfl, hr, Option.map_some]
  other f hf := by rw [route_put, if_neg hf]

theorem EntryChanged.refl {s : State} (g : LiveRoute → LiveRoute) (e : EntryId) (h : ∀ r, s.route e = some r → g r = r) :
    EntryChanged g e s s where
  only := rfl
  same := by
    cases hr : s.route e with
    | none => rfl
    | some r => rw [Option.map_some, h r hr]
  other _ _ := rfl

/-- Entry after entry changes, each by itself and by what no entry changes. -/
theorem foldl_entries (f : State → EntryId → State) (g : LiveRoute → LiveRoute)
    (hone : ∀ t e, t = { s with routes := t.routes } → EntryChanged g e t (f t e)) (es : List EntryId) (hd : es.Nodup) :
    es.foldl f s = { s with routes := (es.foldl f s).routes } ∧
      ∀ e, (es.foldl f s).route e = if e ∈ es then (s.route e).map g else s.route e := by
  induction es generalizing s with
  | nil => exact ⟨rfl, fun e => rfl⟩
  | cons x rest ih =>
    rw [List.nodup_cons] at hd
    obtain ⟨only, same, other⟩ := hone s x rfl
    obtain ⟨honly, hroute⟩ := ih (f s x) (fun t e ht => hone t e (by rw [ht, only])) hd.2
    rw [List.foldl_cons]
    refine ⟨by rw [honly, only], fun e => ?_⟩
    rw [hroute e]
    by_cases hx : e = x
    · subst hx
      rw [if_neg hd.1, if_pos (by simp), same]
    · rw [other e hx]
      simp [hx]

/-- What one operation does to each entry, its run over all of them does to the list. -/
theorem foldl_allEntries (f : State → EntryId → State) (g : LiveRoute → LiveRoute)
    (hone : ∀ t e, t = { s with routes := t.routes } → EntryChanged g e t (f t e)) :
    (∃ routes, allEntries.foldl f s = { s with routes := routes }) ∧
      ∀ e, (allEntries.foldl f s).route e = (s.route e).map g := by
  obtain ⟨only, route⟩ := foldl_entries s f g hone allEntries (List.nodup_finRange 128)
  exact ⟨⟨_, only⟩, fun e => (route e).trans (if_pos (List.mem_finRange e))⟩

/-! ### The pass completion (R61) -/

theorem mem_allCards (k : CardId) : k ∈ allCards := by revert k; decide

/-- The pass has closed every crosspoint of a route. -/
theorem containsAll_iff (a : Matrix) (r : LiveRoute) : a.containsAll r.crosspoints = true ↔
    ∀ p ∈ r.nodes, (a[cardOf p]).getLsbD (placeOf r.bus p) = true := by
  simp only [Matrix.containsAll, List.all_eq_true, mem_allCards, true_implies, beq_iff_eq]
  constructor
  · intro h p hp
    have bit := (crosspoints_at r (cardOf p) (placeOf r.bus p)).2 ⟨p, hp, rfl, rfl⟩
    rw [← h (cardOf p), BitVec.getLsbD_and, Bool.and_eq_true] at bit
    exact bit.1
  · intro h k
    refine BitVec.eq_of_getLsbD_eq fun place _ => ?_
    rw [BitVec.getLsbD_and, Bool.and_eq_right_iff_imp]
    intro bit
    obtain ⟨p, hp, rfl, rfl⟩ := (crosspoints_at r k place).1 bit
    exact h p hp

/-- The pass has opened every crosspoint of a route. -/
theorem containsNone_iff (a : Matrix) (r : LiveRoute) : a.containsNone r.crosspoints = true ↔
    ∀ p ∈ r.nodes, (a[cardOf p]).getLsbD (placeOf r.bus p) = false := by
  simp only [Matrix.containsNone, List.all_eq_true, mem_allCards, true_implies, beq_iff_eq]
  constructor
  · intro h p hp
    have bit := (crosspoints_at r (cardOf p) (placeOf r.bus p)).2 ⟨p, hp, rfl, rfl⟩
    have zero := congrArg (BitVec.getLsbD · (placeOf r.bus p)) (h (cardOf p))
    simpa only [BitVec.getLsbD_and, bit, Bool.and_true] using zero.trans BitVec.getLsbD_zero
  · intro h k
    refine BitVec.eq_of_getLsbD_eq fun place _ => ?_
    rw [BitVec.getLsbD_and, show (0 : BitVec 512) = 0#512 from rfl, BitVec.getLsbD_zero, Bool.and_eq_false_imp]
    intro set
    rw [← Bool.not_eq_true]
    intro bit
    obtain ⟨p, hp, rfl, rfl⟩ := (crosspoints_at r k place).1 bit
    rw [h p hp] at set
    cases set

/-- A route as the completion of a pass leaves it: the make or the release timer starts when the pass has closed or opened its
crosspoints (R61). -/
def State.completed (s : State) (r : LiveRoute) : LiveRoute :=
  if r.pendingPass = true ∧ r.state = .making ∧
      ∀ a ∈ r.nodes, (s.chain.snapshot[cardOf a]).getLsbD (placeOf r.bus a) = true then
    { r with
      pendingPass := false
      timer := some ⟨s.time, largestTime s Card.operate r.nodes * 100 + r.settle.toNat * 10⟩ }
  else if r.pendingPass = true ∧ r.state = .breaking ∧
      ∀ a ∈ r.nodes, (s.chain.snapshot[cardOf a]).getLsbD (placeOf r.bus a) = false then
    { r with pendingPass := false, timer := some ⟨s.time, largestTime s Card.release r.nodes * 100⟩ }
  else r

theorem completeEntry_changed (e : EntryId) : EntryChanged s.completed e s (completeEntry s.chain.snapshot s e) := by
  cases hr : s.route e with
  | none =>
    rw [show completeEntry s.chain.snapshot s e = s by simp only [completeEntry, hr]]
    exact .refl _ e fun r h => by simp [hr] at h
  | some r =>
    have eq : completeEntry s.chain.snapshot s e = s.setRoutes (s.routes.put e.val (s.completed r)) ∨
        completeEntry s.chain.snapshot s e = s ∧ s.completed r = r := by
      simp only [completeEntry, hr, containsAll_iff, containsNone_iff, State.completed]
      by_cases hp : r.pendingPass = true
      · by_cases hm : r.state = .making ∧
            ∀ a ∈ r.nodes, (s.chain.snapshot[cardOf a]).getLsbD (placeOf r.bus a) = true
        · exact .inl (by rw [if_pos hp, if_pos hm, if_pos ⟨hp, hm⟩])
        · by_cases hb : r.state = .breaking ∧
              ∀ a ∈ r.nodes, (s.chain.snapshot[cardOf a]).getLsbD (placeOf r.bus a) = false
          · exact .inl (by rw [if_pos hp, if_neg hm, if_pos hb, if_neg fun h => hm h.2, if_pos ⟨hp, hb⟩])
          · exact .inr ⟨by rw [if_pos hp, if_neg hm, if_neg hb], by rw [if_neg fun h => hm h.2, if_neg fun h => hb h.2]⟩
      · exact .inr ⟨if_neg hp, by rw [if_neg fun h => hp h.1, if_neg fun h => hp h.1]⟩
    rcases eq with h | ⟨h, own⟩
    · rw [h]
      exact .put s.completed e r hr
    · rw [h]
      exact .refl _ e fun q hq => by rw [hr] at hq; exact Option.some.inj hq ▸ own

theorem routesPassCompletion_changed : (∃ routes, routesPassCompletion s = { s with routes := routes }) ∧
    ∀ e, (routesPassCompletion s).route e = (s.route e).map s.completed := by
  refine foldl_allEntries s _ s.completed fun t e ht => ?_
  have changed := completeEntry_changed t e
  have hg : t.completed = s.completed := by rw [ht]; rfl
  have hs : t.chain.snapshot = s.chain.snapshot := by rw [ht]
  rwa [hg, hs] at changed

/-! ### The expiries (R62, R67) -/

theorem makeTimerExpiry_running (e : EntryId) (r : LiveRoute) (t : Timer) (hr : s.route e = some r)
    (hm : r.state = .making) (ht : r.timer = some t) :
    exec (.makeTimerExpiry e) s = .next (whenRun t (fun s => settle (routeMade e r s)) s) := by
  show execMakeTimerExpiry e s = _
  simp only [execMakeTimerExpiry, hr, hm, ht]

theorem makeTimerExpiry_none (e : EntryId) (h : ∀ r, s.route e = some r → r.state ≠ .making ∨ r.timer = none) :
    exec (.makeTimerExpiry e) s = .next s := by
  show execMakeTimerExpiry e s = _
  unfold execMakeTimerExpiry
  split
  · rename_i r hr
    split
    · rename_i hm ht
      rcases h r hr with h | h
      · exact absurd hm h
      · rw [h] at ht
        cases ht
    · rfl
  · rfl

theorem releaseTimerExpiry_running (e : EntryId) (r : LiveRoute) (t : Timer) (hr : s.route e = some r)
    (hb : r.state = .breaking) (ht : r.timer = some t) :
    exec (.releaseTimerExpiry e) s = .next (whenRun t (fun s => settle (routeGone e r s)) s) := by
  show execReleaseTimerExpiry e s = _
  simp only [execReleaseTimerExpiry, hr, hb, ht]

theorem releaseTimerExpiry_none (e : EntryId) (h : ∀ r, s.route e = some r → r.state ≠ .breaking ∨ r.timer = none) :
    exec (.releaseTimerExpiry e) s = .next s := by
  show execReleaseTimerExpiry e s = _
  unfold execReleaseTimerExpiry
  split
  · rename_i r hr
    split
    · rename_i hb ht
      rcases h r hr with h | h
      · exact absurd hb h
      · rw [h] at ht
        cases ht
    · rfl
  · rfl

/-- A route timer whose expiry is not reached runs on. -/
theorem routeTimer_behind (e : EntryId) (r : LiveRoute) (t : Timer) (hr : s.route e = some r) (ht : r.timer = some t)
    (h : s.reaches t = false) : exec (.makeTimerExpiry e) s = .next s ∧ exec (.releaseTimerExpiry e) s = .next s := by
  constructor
  · by_cases hm : r.state = .making
    · rw [makeTimerExpiry_running s e r t hr hm ht, whenRun_behind s t _ h]
    · exact makeTimerExpiry_none s e fun q hq => .inl (by rw [hr] at hq; exact Option.some.inj hq ▸ hm)
  · by_cases hb : r.state = .breaking
    · rw [releaseTimerExpiry_running s e r t hr hb ht, whenRun_behind s t _ h]
    · exact releaseTimerExpiry_none s e fun q hq => .inl (by rw [hr] at hq; exact Option.some.inj hq ▸ hb)

/-! ### The site of an entry that is MADE (R60, R127) -/

theorem tellMade_connect (e : EntryId) (n : SiteId) (r : StepRecord) (d : Byte) (hp : (s.site n).phase = .wait .settle)
    (he : (s.site n).settleOn = some e) (ht : (s.site n).taking = some r) (hk : r.kind = .connect d) :
    tellMade e n s = finishStep n false none s := by
  simp only [tellMade, hp, he, ht, hk, and_self, if_true]

theorem tellMade_sampling (e : EntryId) (n : SiteId) (r : StepRecord) (hp : (s.site n).phase = .wait .settle)
    (he : (s.site n).settleOn = some e) (ht : (s.site n).taking = some r)
    (hk : (∃ f, r.kind = .measure f) ∨ (∃ f, r.kind = .zero f)) :
    tellMade e n s = samplingStep n r (resumeStep n s) := by
  rcases hk with ⟨f, hk⟩ | ⟨f, hk⟩ <;> simp only [tellMade, hp, he, ht, hk, and_self, if_true]

theorem tellMade_other (e : EntryId) (n : SiteId) (h : (s.site n).phase ≠ .wait .settle ∨ (s.site n).settleOn ≠ some e) :
    tellMade e n s = s :=
  if_neg fun ⟨hp, he⟩ => h.elim (absurd hp) (absurd he)

/-! ### The site of an entry that is gone (R39, R59, R71) -/

theorem entriesOn_nil_iff (n : SiteId) (i : InstrId) :
    s.entriesOn n i = [] ↔ ∀ e y, s.route e = some y → ¬ (y.site = n ∧ y.inst = i) := by
  simp only [State.entriesOn, List.filter_eq_nil_iff, allEntries, List.mem_finRange, true_implies, Option.any_eq_true,
    Bool.and_eq_true, beq_iff_eq, not_exists]
  grind

theorem tellGone_release (r : LiveRoute) (x : StepRecord) (i : InstrId) (hp : (s.site r.site).phase = .wait .release)
    (ht : (s.site r.site).taking = some x) (hk : x.kind = .release i) : tellGone r s =
      if i = r.inst ∧ s.entriesOn r.site i = [] then
        finishStep r.site false none (handover i (resumeStep r.site s))
      else s := by
  obtain ⟨tag, next, onFail, kind⟩ := x
  obtain rfl : kind = .release i := hk
  simp only [tellGone, hp, ht]

theorem tellGone_connect (r : LiveRoute) (x : StepRecord) (d : Byte) (hp : (s.site r.site).phase = .wait .node)
    (ht : (s.site r.site).taking = some x) (hk : x.kind = .connect d) : tellGone r s =
      if ∃ p ∈ r.nodes, p ∈ (s.site r.site).needNodes then connectStep r.site d (resumeStep r.site s) else s := by
  obtain ⟨tag, next, onFail, kind⟩ := x
  obtain rfl : kind = .connect d := hk
  simp only [tellGone, hp, ht, List.any_eq_true, List.contains_iff_mem]

theorem tellGone_other (r : LiveRoute) (hr : (s.site r.site).phase ≠ .wait .release)
    (hn : (s.site r.site).phase ≠ .wait .node) : tellGone r s =
      if (s.site r.site).state = .teardown ∧ (s.site r.site).teardownPhase = some .breakRoutes ∧
        s.siteEntries r.site = [] then releasePhase r.site s
      else s := by
  simp only [tellGone]
  split
  · exact absurd ‹_› hr
  · exact absurd ‹_› hn
  · rfl

/-- Settles O35: the completion entry by entry, the two expiries, and the sites that are told. -/
theorem routesAreTimed : Obligations.RoutesAreTimed := by
  refine ⟨fun s => routesPassCompletion_changed s, ⟨fun e r t s hr ht h => routeTimer_behind s e r t hr ht h,
    fun e r t s hr hm ht h => ?_, fun e r t s hr hb ht h => ?_, fun e s h => makeTimerExpiry_none s e h,
    fun e s h => releaseTimerExpiry_none s e h, fun e n r d s hp he ht hk => tellMade_connect s e n r d hp he ht hk⟩,
    fun e n r s hp he ht hk => tellMade_sampling s e n r hp he ht hk, fun e n s h => tellMade_other s e n h,
    fun r x i s hp ht hk => ⟨fun hi hnone => ?_, fun h => ?_⟩,
    fun r x d s hp ht hk => tellGone_connect s r x d hp ht hk, fun r s hr hn => tellGone_other s r hr hn⟩
  · rw [makeTimerExpiry_running s e r t hr hm ht, whenRun_reached s t _ h]
    rfl
  · rw [releaseTimerExpiry_running s e r t hr hb ht, whenRun_reached s t _ h]
    rfl
  · rw [tellGone_release s r x i hp ht hk, if_pos ⟨hi, (entriesOn_nil_iff s r.site i).2 hnone⟩]
    rfl
  · rw [tellGone_release s r x i hp ht hk, if_neg]
    rintro ⟨hi, hnil⟩
    rcases h with h | ⟨e, y, hy, hon⟩
    · exact h hi
    · exact (entriesOn_nil_iff s r.site i).1 hnil e y hy hon

end Sys2Proof.Machine
end

section
/-! VERIFY and the card fault (O33; R68, R69, R84, R85, R92). -/

namespace Sys2Proof.Machine

variable (s : State)

/-! ### The next present position (R82, R84) -/

/-- In an increasing list the search finds the least member that passes. -/
theorem find?_eq_least (p : CardId → Bool) (k : CardId) (hk : p k = true) (below : ∀ j < k, p j = false) (l : List CardId)
    (hl : l.Pairwise (· < ·)) (hm : k ∈ l) : l.find? p = some k := by
  induction l with
  | nil => cases hm
  | cons x rest ih =>
    rw [List.pairwise_cons] at hl
    rcases List.mem_cons.1 hm with rfl | hrest
    · exact List.find?_cons_of_pos hk
    · rw [List.find?_cons_of_neg (by simp [below x (hl.1 k hrest)]), ih hl.2 hrest]

theorem Card.present_iff (c : Card) : c.present = true ↔ c.state ≠ .absent := by simp [Card.present]

theorem nextPresent_eq (cursor : Nat) (k : CardId) (hc : cursor ≤ k.val) (hk : (s.card k).state ≠ .absent)
    (below : ∀ j : CardId, cursor ≤ j.val → j < k → (s.card j).state = .absent) : s.nextPresent cursor = some k := by
  refine find?_eq_least _ k (by simp [hc, (Card.present_iff _).2 hk]) (fun j hj => ?_) allCards (by decide) (mem_allCards k)
  by_cases hcj : cursor ≤ j.val
  · simp [hcj, Card.present, below j hcj hj]
  · simp [hcj]

theorem nextPresent_isSome (k : CardId) :
    (s.nextPresent (k.val + 1)).isSome = true ↔ ∃ j : CardId, k < j ∧ (s.card j).state ≠ .absent := by
  simp only [State.nextPresent, List.find?_isSome, mem_allCards, true_and, Bool.and_eq_true, decide_eq_true_eq,
    Card.present_iff]
  exact Iff.rfl

/-! ### The card fault at its routes and its sites (R68, R69) -/

theorem onCard_iff (k : CardId) (r : LiveRoute) :
    r.nodes.any (fun p => cardOf p == k) = true ↔ ∃ p ∈ r.nodes, p / 32 % 16 = k.val := by
  simp [List.any_eq_true, cardOf, Fin.ext_iff]

/-- A route as a fault of card `k` leaves it (R68). -/
def LiveRoute.faultedBy (k : CardId) (r : LiveRoute) : LiveRoute :=
  if (r.state = .making ∨ r.state = .made) ∧ ∃ p ∈ r.nodes, p / 32 % 16 = k.val then
    { r with state := .faulted, pendingPass := false, timer := none }
  else r

theorem faultEntry_changed (k : CardId) (e : EntryId) : EntryChanged (LiveRoute.faultedBy k) e s (faultEntry k s e) := by
  cases hr : s.route e with
  | none =>
    rw [show faultEntry k s e = s by simp only [faultEntry, hr]]
    exact .refl _ e fun r h => by simp [hr] at h
  | some r =>
    have put := EntryChanged.put (LiveRoute.faultedBy k) e r hr
    by_cases h : (r.state = .making ∨ r.state = .made) ∧ ∃ p ∈ r.nodes, p / 32 % 16 = k.val
    · rw [LiveRoute.faultedBy, if_pos h] at put
      simpa only [faultEntry, hr, onCard_iff, if_pos h] using put
    · simp only [faultEntry, hr, onCard_iff, if_neg h]
      exact .refl _ e fun q hq => by rw [hr] at hq; exact Option.some.inj hq ▸ if_neg h

theorem faultEntries_changed (k : CardId) : (∃ routes, allEntries.foldl (faultEntry k) s = { s with routes := routes }) ∧
    ∀ e, (allEntries.foldl (faultEntry k) s).route e = (s.route e).map (LiveRoute.faultedBy k) :=
  foldl_allEntries s _ _ fun t e _ => faultEntry_changed t k e

theorem mem_sitesOnCard (k : CardId) (n : SiteId) : n ∈ s.sitesOnCard k ↔
    ∃ e r, s.route e = some r ∧ r.site = n ∧ (r.state = .making ∨ r.state = .made) ∧
      ∃ p ∈ r.nodes, p / 32 % 16 = k.val := by
  simp only [State.sitesOnCard, List.mem_filter, mem_allSites, true_and, List.any_eq_true, allEntries, List.mem_finRange,
    Option.any_eq_true, Bool.and_eq_true, Bool.or_eq_true, beq_iff_eq, and_assoc]
  simp only [← onCard_iff, List.any_eq_true, beq_iff_eq]

theorem sitesOnCard_sorted (k : CardId) : (s.sitesOnCard k).Pairwise (· < ·) := .filter _ (by decide)

theorem deliverRouteFault_eq (n : SiteId) : deliverRouteFault s n =
    if ((s.site n).state = .run ∨ (s.site n).state = .manual) ∧ (s.site n).phase ≠ .noStep then stepError n .routeFault s
    else s := by
  simp only [deliverRouteFault, State.works_iff, Site.inStep_iff]

/-- ROUTE_FAULT leaves sites without a step as they are. -/
theorem deliverRouteFaults_idle (h : ∀ n, (s.site n).phase = .noStep) (ns : List SiteId) :
    ns.foldl deliverRouteFault s = s := by
  induction ns with
  | nil => rfl
  | cons n rest ih => rw [List.foldl_cons, deliverRouteFault_eq, if_neg fun x => x.2 (h n), ih]

/-! ### The card fault (R85) -/

/-- A card as its fault leaves it. -/
def Card.faultedBy (cause : CardCause) (c : Card) : Card :=
  { c with
    state := .fault, faultCount := if c.faultCount = 255 then 255 else c.faultCount + 1
    firstCause := some (c.firstCause.getD cause) }

theorem sat8_eq (c : Byte) : sat8 c = if c = 255 then 255 else c + 1 := by
  unfold sat8
  split
  · assumption
  · rfl

theorem cardNotice_eq (k : CardId) (cause : CardCause) (id returned : Option Byte) (differ : List Nat) (pass : Nat) :
    cardNotice k cause id returned differ.length differ.head? pass s = notice 0x86
      ([BitVec.ofNat 8 k, Config.code .cardCause (if cause = .readback then 0 else 1), id.getD 0xFF, returned.getD 0xFF] ++
        le16 differ.length ++
        (match differ with
          | [] => [0xFF, 0xFF, 0xFF]
          | d :: _ => [BitVec.ofNat 8 (d / 32)] ++ le16 (32 * k.val + d % 32)) ++
        [(s.card k).faultCount] ++ le32 pass ++ le32 s.time.toNat) s := by
  cases cause <;> cases id <;> cases returned <;> cases differ <;> rfl

/-- The card fault in its order: the card, its routes, the sites of those routes, the CARD notice. -/
theorem cardFault_eq (k : CardId) (cause : CardCause) (id returned : Option Byte) (differ : List Nat) (pass : Nat) :
    ∃ routes : Table LiveRoute,
      let u := (s.setCard k ((s.card k).faultedBy cause)).setRoutes routes
      (∀ e, u.route e = (s.route e).map (LiveRoute.faultedBy k)) ∧
      cardFault k cause id returned differ pass s =
        cardNotice k cause id returned differ.length differ.head? pass ((s.sitesOnCard k).foldl deliverRouteFault u) := by
  obtain ⟨⟨routes, only⟩, route⟩ := faultEntries_changed (s.setCard k ((s.card k).faultedBy cause)) k
  change _ = State.setRoutes _ routes at only
  rw [only] at route
  refine ⟨routes, route, ?_⟩
  rw [← only]
  simp only [cardFault, sat8_eq]
  rfl

/-- Without a step in progress a card fault is the card, its routes and the notice. -/
theorem cardFault_idle (k : CardId) (cause : CardCause) (id returned : Option Byte) (differ : List Nat) (pass : Nat)
    (h : ∀ n, (s.site n).phase = .noStep) : ∃ (routes : Table LiveRoute) (link : Link),
      let t := ((s.setCard k ((s.card k).faultedBy cause)).setRoutes routes).setLink link
      (∀ e, t.route e = (s.route e).map (LiveRoute.faultedBy k)) ∧ cardFault k cause id returned differ pass s = t := by
  obtain ⟨routes, route, eq⟩ := cardFault_eq s k cause id returned differ pass
  rw [deliverRouteFaults_idle ((s.setCard k ((s.card k).faultedBy cause)).setRoutes routes) h] at eq
  refine ⟨routes, (cardFault k cause id returned differ pass s).link, route, ?_⟩
  rw [eq]
  exact notice_only _ _ _

/-! ### The judgement (R84, R92) -/

theorem judgeCard_some (k : CardId) (a : CardAnswer) : judgeCard k (some a) s =
    if (s.card k).relearn = false ∧ (s.card k).id ≠ some a.id then
      cardFault k .lost (s.card k).id (some a.id) [] s.chain.passNumber.toNat s
    else if a.bits = (s.card k).latched then s.setCard k { s.card k with id := some a.id, relearn := false }
    else
      cardFault k .readback (s.card k).id (some a.id) (setPlaces (a.bits ^^^ (s.card k).latched)) s.chain.passNumber.toNat
        (s.setCard k { s.card k with id := some a.id, relearn := false }) := by
  simp only [judgeCard, Bool.and_eq_true, Bool.not_eq_true', bne_iff_ne, differences]

/-- A position of the verify set is judged, another is passed over. -/
def State.judged (s : State) (k : CardId) (answer : Option CardAnswer) : State :=
  let t := s.setChain { s.chain with cursor := k.val + 1 }
  if s.chain.verifySet.getLsbD k = false then t else judgeCard k answer t

theorem readFrameAnswer_at (k : CardId) (answer : Option CardAnswer) (hv : s.chain.phase = .verify)
    (hk : s.nextPresent s.chain.cursor = some k) : exec (.readFrameAnswer answer) s = .next (settle
      (if ∃ j : CardId, k < j ∧ ((s.judged k answer).card j).state ≠ .absent then s.judged k answer
      else completePass (s.judged k answer))) := by
  have eq : exec (.readFrameAnswer answer) s = match (s.judged k answer).nextPresent (k.val + 1) with
      | some _ => .next (settle (s.judged k answer))
      | none => .next (settle (completePass (s.judged k answer))) := by
    show execReadFrameAnswer answer s = _
    simp only [execReadFrameAnswer, if_pos hv, hk, State.judged]
    cases s.chain.verifySet.getLsbD k.val <;> rfl
  rw [eq]
  cases hn : (s.judged k answer).nextPresent (k.val + 1) with
  | some j => rw [if_pos ((nextPresent_isSome _ k).1 (by rw [hn]; rfl))]
  | none => rw [if_neg fun h => by rw [← nextPresent_isSome, hn] at h; cases h]

theorem readFrameAnswer_elsewhere (answer : Option CardAnswer) (hv : s.chain.phase ≠ .verify) :
    exec (.readFrameAnswer answer) s = .next s := by
  show execReadFrameAnswer answer s = _
  rw [execReadFrameAnswer, if_neg hv]

/-- Settles O33: the judgement of a position, and the card fault at the card, its routes, their sites and in its notice. -/
theorem verifyJudgesCards : Obligations.VerifyJudgesCards := by
  refine ⟨⟨fun k answer s hv hc hk below => ?_, fun answer s hv => readFrameAnswer_elsewhere s answer hv⟩,
    fun k cause id returned differ pass s h => ?_, fun k s => ⟨sitesOnCard_sorted s k, mem_sitesOnCard s k⟩,
    fun k cause id returned differ pass s => ?_, fun n s => deliverRouteFault_eq s n⟩
  · rw [readFrameAnswer_at s k answer hv (nextPresent_eq s _ k hc hk below)]
    cases answer with
    | none => rfl
    | some a =>
      rw [State.judged, judgeCard_some]
      rfl
  · obtain ⟨routes, link, route, eq⟩ := cardFault_idle s k cause id returned differ pass h
    rw [eq]
    exact ⟨State.setCard_card_same s k _, fun j hj => State.setCard_card_other s k _ j (Ne.symm hj), route,
      rfl, rfl, rfl, rfl, rfl, rfl, rfl⟩
  · obtain ⟨routes, route, eq⟩ := cardFault_eq s k cause id returned differ pass
    exact ⟨routes, route, eq.trans (cardNotice_eq _ k cause id returned differ pass)⟩

end Sys2Proof.Machine
end

section
/-! COUNTERS_READ, FIXTURE_READ and COUNTERS_CLEAR (O13), CARD_SET and CARD_RESET (O27), WEAR_READ (O28). -/

namespace Sys2Proof.Machine

variable (s : State)

/-! ### COUNTERS_CLEAR (R118, R198) -/

/-- The row that a frame is filed under does not change what it does: its body is the group that it clears. -/
theorem countersClearRow_exec (tag : Byte) (body : List Byte) :
    exec (countersClearRow tag body) s = .next (countersClearRequest tag body s) := by
  unfold countersClearRow
  split <;> rfl

theorem countersClear_answers {c : Instr} {tag : Byte} {body : List Byte} {effect : State → State} (g : CounterGroup)
    (hc : ∀ s, exec c s = .next (countersClearRequest tag body s)) (hl : body.length = 2) (hg : counterGroup body = some g)
    (hh : ∀ s, send ⟨0x44, tag, [0x00]⟩ (clearGroup g s) = effect s) :
    Answers c ⟨0x04, tag, body⟩ (fun _ => True) effect := by
  refine Answers.of id _ hc fun s _ => ?_
  simp only [hl, decide_true, withLength_allowed, hg]
  exact hh s

theorem counterGroup_port (i : InstrId) : counterGroup [2, BitVec.ofNat 8 i] = some (.port i) :=
  congrArg (Option.map CounterGroup.port) (readInst_ofNat i)

/-- A group above 3, and PORT with an index above 5, name no group (R198). -/
theorem counterGroup_none (g p : Byte) (h : 3 < g.toNat ∨ (g = 2 ∧ 5 < p.toNat)) : counterGroup [g, p] = none := by
  rcases h with h | ⟨rfl, hp⟩
  · obtain ⟨m, hm⟩ : ∃ m, g.toNat = m + 4 := ⟨_, (Nat.sub_add_cancel h).symm⟩
    simp only [counterGroup, hm]
  · exact congrArg (Option.map CounterGroup.port) (readInst_none p hp)

theorem countersClear_refuses (tag g p : Byte) (h : 3 < g.toNat ∨ (g = 2 ∧ 5 < p.toNat)) :
    Refuses (countersClearRow tag [g, p]) ⟨0x04, tag, [g, p]⟩ (fun _ => True) 0x03 := by
  refine Answers.of id _ (fun s => countersClearRow_exec s tag _) fun s _ => ?_
  simp only [counterGroup_none g p h]
  rfl

/-- A request without fields that replies a report changes nothing (R171, R198). -/
theorem report_answers {c : Instr} {kind tag : Byte} {report : State → List Byte} {effect : State → State}
    (hc : ∀ s, exec c s = .next (plainRequest kind tag [] (fun s => reply kind tag .ok (report s) s) s))
    (hh : ∀ s, send ⟨kind + 0x40, tag, 0x00 :: report s⟩ s = effect s) :
    Answers c ⟨kind, tag, []⟩ (fun _ => True) effect :=
  Answers.of id _ hc fun s _ => hh s

/-- Settles O13: the two reports, and COUNTERS_CLEAR group by group. -/
theorem countersAreReportedAndCleared : Obligations.CountersAreReportedAndCleared := by
  refine ⟨⟨fun tag => ?_, fun tag => ?_⟩, fun tag p => ?_, fun tag p => ?_, fun tag i => ?_, fun tag p => ?_,
    countersClear_refuses⟩
  · exact report_answers (report := countersBytes) (fun _ => rfl) fun _ => rfl
  · exact report_answers (report := fixtureReply) (fun _ => rfl) fun _ => rfl
  · exact countersClear_answers .link (fun _ => rfl) rfl rfl fun _ => rfl
  · exact countersClear_answers .watchdog (fun _ => rfl) rfl rfl fun _ => rfl
  · exact countersClear_answers (.port i) (fun _ => rfl) rfl (counterGroup_port i) fun _ => rfl
  · exact countersClear_answers .card (fun _ => rfl) rfl rfl fun _ => rfl

/-! ### CARD_SET (R89, R90) -/

@[simp] theorem readCard_ofNat (k : CardId) : readCard (BitVec.ofNat 8 k) = some k := by
  have hk : k.val % 256 = k.val := Nat.mod_eq_of_lt (by omega)
  simp [readCard, hk]

theorem readCard_none (b : Byte) (h : 15 < b.toNat) : readCard b = none := by simp [readCard]; omega

theorem ofNat_read24 (b0 b1 b2 : Byte) : BitVec.ofNat 24 (read24 b0 b1 b2) = b2 ++ b1 ++ b0 := by
  apply BitVec.eq_of_toNat_eq
  have h0 := b0.isLt
  have h1 := b1.isLt
  have h2 := b2.isLt
  simp only [read24, BitVec.toNat_ofNat, BitVec.toNat_append]
  rw [← Nat.shiftLeft_add_eq_or_of_lt h1, ← Nat.shiftLeft_add_eq_or_of_lt h0, Nat.shiftLeft_eq, Nat.shiftLeft_eq]
  omega

theorem limitTimer_byte (now : Time) (ms : Byte) :
    limitTimer now ms.toNat = if ms = 0 then none else some ⟨now, ms.toNat * 1000⟩ := by
  refine if_congr ?_ rfl rfl
  rw [← BitVec.toNat_inj]
  rfl

/-- The row that a frame is filed under does not change what it does: its body is the form that it sets. -/
theorem cardSetRow_exec (tag : Byte) (body : List Byte) :
    exec (cardSetRow tag body) s = .next (cardSetRequest tag body s) := by
  unfold cardSetRow
  split <;> rfl

theorem cardSetCard_answers (tag operate release w0 w1 w2 : Byte) (k : CardId) :
    Answers (.cardSetCard tag [0, BitVec.ofNat 8 k, operate, release, w0, w1, w2])
      ⟨0x10, tag, [0, BitVec.ofNat 8 k, operate, release, w0, w1, w2]⟩ (fun _ => True) fun s =>
      send ⟨0x50, tag, [0x00]⟩ (s.setCard k { s.card k with
        operate := operate, release := release, threshold := w2 ++ w1 ++ w0 }) := by
  refine Answers.of id _ (fun _ => rfl) fun s _ => ?_
  simp [withLength, ofNat_read24, reply_eq, Status.code]

theorem cardSetChain_answers (tag interval : Byte) :
    Answers (.cardSetChain tag [1, interval]) ⟨0x10, tag, [1, interval]⟩ (fun _ => True) fun s =>
      send ⟨0x50, tag, [0x00]⟩ (s.setChain { s.chain with
        interval := interval
        refresh := if interval = 0 then none else some ⟨s.time, interval.toNat * 1000⟩
        passDue := if interval = 0 then false else s.chain.passDue }) := by
  refine Answers.of id _ (fun _ => rfl) fun s _ => ?_
  rw [← limitTimer_byte]
  rfl

theorem cardSet_refuses_card (tag form position operate release w0 w1 w2 : Byte) (h : form ≠ 0 ∨ 15 < position.toNat) :
    Refuses (cardSetRow tag [form, position, operate, release, w0, w1, w2])
      ⟨0x10, tag, [form, position, operate, release, w0, w1, w2]⟩ (fun _ => True) 0x03 := by
  refine Answers.of id _ (fun s => cardSetRow_exec s tag _) fun s _ => ?_
  rcases h with h | h
  · simp only [decide_eq_false h]
    rfl
  · simp only [readCard_none position h]
    cases decide (form = 0) <;> rfl

theorem cardSet_refuses_chain (tag form interval : Byte) (h : form ≠ 1) :
    Refuses (cardSetRow tag [form, interval]) ⟨0x10, tag, [form, interval]⟩ (fun _ => True) 0x03 := by
  refine Answers.of id _ (fun s => cardSetRow_exec s tag _) fun s _ => ?_
  simp only [if_neg h]
  rfl

/-! ### CARD_RESET (R91) -/

/-- A card reset asks for a pass, and an idle controller begins it. -/
theorem resetCard_eq (k : CardId) :
    let t : State := { s with chain := { s.chain with
      passDue := true, cards := s.chain.cards.set k { s.card k with state := .active, relearn := true } } }
    resetCard k s = if s.chain.phase = .idle then beginPass t else t := by
  refine (chainKick_eq _).trans (if_congr ?_ rfl rfl)
  exact and_iff_left (.inr rfl)

theorem cardReset_answers {tag : Byte} {k : CardId} {guard : State → Prop} {effect : State → State}
    (hh : ∀ s, guard s →
      (if s.chain.phase = .discovery then send ⟨0x51, tag, [0x05]⟩ s
       else if (s.card k).state = .absent then send ⟨0x51, tag, [0x04]⟩ s
       else send ⟨0x51, tag, [0x00]⟩ (resetCard k s)) = effect s) :
    Answers (.cardReset tag [BitVec.ofNat 8 k]) ⟨0x11, tag, [BitVec.ofNat 8 k]⟩ guard effect := by
  refine Answers.of id _ (fun _ => rfl) fun s hg => ?_
  simp only [readCard_ofNat]
  exact hh s hg

theorem cardReset_refuses (tag position : Byte) (h : 15 < position.toNat) :
    Refuses (.cardReset tag [position]) ⟨0x11, tag, [position]⟩ (fun _ => True) 0x03 := by
  refine Answers.of id _ (fun _ => rfl) fun s _ => ?_
  simp only [readCard_none position h]
  rfl

/-- Settles O27: the two forms of CARD_SET, and CARD_RESET from `resetCard`. -/
theorem cardsAreSetAndReset : Obligations.CardsAreSetAndReset := by
  refine ⟨⟨cardSetCard_answers, cardSetChain_answers, cardSet_refuses_card, cardSet_refuses_chain⟩, fun tag k => ?_,
    cardReset_refuses⟩
  refine ⟨cardReset_answers fun s ⟨hd, ha⟩ => ?_, cardReset_answers fun s hd => ?_, cardReset_answers fun s ⟨hd, ha⟩ => ?_⟩
  · rw [if_neg hd, if_neg ha, resetCard_eq]
  · exact if_pos hd
  · rw [if_neg hd, if_pos ha]
    rfl

/-! ### WEAR_READ (R95) -/

theorem wearRange_some (k : CardId) (first count : Byte) (h1 : 1 ≤ count.toNat) (h8 : count.toNat ≤ 8)
    (h16 : first.toNat + count.toNat ≤ 16) : wearRange (BitVec.ofNat 8 k) first count = some k := by
  have h0 : count ≠ 0 := by rintro rfl; simp at h1
  rw [wearRange, if_neg (by simp only [h0, false_or]; omega), readCard_ofNat]

theorem wearRange_none (position first count : Byte)
    (h : 15 < position.toNat ∨ count = 0 ∨ 8 < count.toNat ∨ 16 < first.toNat + count.toNat) :
    wearRange position first count = none := by
  unfold wearRange
  split
  · rfl
  · exact readCard_none position (h.resolve_right ‹_›)

/-- Settles O28: the counts of the places named, and the three refusals of `wearRange`. -/
theorem wearIsRead : Obligations.WearIsRead := by
  refine ⟨fun tag first count k h1 h8 h16 => ?_, fun tag position first count h => ?_⟩
  · refine Answers.of id _ (fun _ => rfl) fun s _ => ?_
    simp only [wearRange_some k first count h1 h8 h16]
    rfl
  · refine Answers.of id _ (fun _ => rfl) fun s _ => ?_
    simp only [wearRange_none position first count h]
    rfl

end Sys2Proof.Machine
end

section
/-! The wear counts: WEAR_LOAD, and the closings that the completion of a pass counts (O29; R86, R93, R94, R96). -/

namespace Sys2Proof.Machine

variable (s : State)

/-! ### One count written -/

theorem wearKey_inj {j k : CardId} {p q : Nat} (hp : p < 512) (hq : q < 512) :
    wearKey j p = wearKey k q ↔ j = k ∧ p = q := by
  simp only [wearKey, Fin.ext_iff]
  omega

/-- Reading a count after a count was written. -/
theorem wearCount_setWear (k j : CardId) (place p count : Nat) (hplace : place < 512) (hp : p < 512) :
    (setWear k place count s).wearCount j p = if j = k ∧ p = place then count else s.wearCount j p := by
  simp only [State.wearCount, setWear, Table.get_assign, wearKey_inj hp hplace]
  by_cases h : j = k ∧ p = place
  · rw [if_pos h, if_pos h]
    by_cases h0 : count = 0
    · rw [if_pos h0, h0]
      rfl
    · rw [if_neg h0]
      rfl
  · rw [if_neg h, if_neg h]

/-- The wear table alone decides the counts. -/
theorem wearCount_congr {s t : State} (h : t.wear = s.wear) (j : CardId) (p : Nat) : t.wearCount j p = s.wearCount j p := by
  rw [State.wearCount, State.wearCount, h]

/-! ### WEAR_LOAD (R96) -/

theorem taken_wear (f : Frame) : (taken f s).wear = s.wear := by
  unfold taken
  split
  · rfl
  · obtain ⟨link, safe, eq, -⟩ := safeRemove_shape (restartWatchdog s) .link
    rw [eq]
    rfl

/-- Counts written to consecutive places, from `first` on. -/
def loadCounts (k : CardId) (first : Nat) (counts : List (BitVec 24)) (s : State) : State :=
  ((List.range' first counts.length).zip (counts.map fun c => le24 c.toNat)).foldl (loadWear k) s

theorem loadCounts_cons (k : CardId) (first : Nat) (c : BitVec 24) (rest : List (BitVec 24)) :
    loadCounts k first (c :: rest) s = loadCounts k (first + 1) rest (setWear k first c.toNat s) := by
  have one : loadWear k s (first, le24 c.toNat) = setWear k first c.toNat s := by
    simp only [loadWear, le24, read24_le24 c.toNat c.isLt]
  rw [← one]
  rfl

theorem loadCounts_only (k : CardId) (first : Nat) (counts : List (BitVec 24)) :
    loadCounts k first counts s = { s with wear := (loadCounts k first counts s).wear } := by
  induction counts generalizing s first with
  | nil => rfl
  | cons c rest ih =>
    rw [loadCounts_cons]
    exact ih (setWear k first c.toNat s) (first + 1)

/-- The counts named are replaced, and no other count is. -/
theorem loadCounts_wearCount (k : CardId) (first : Nat) (counts : List (BitVec 24)) (hfit : first + counts.length ≤ 512)
    (j : CardId) (p : Nat) (hp : p < 512) : (loadCounts k first counts s).wearCount j p =
      if j = k ∧ first ≤ p ∧ p < first + counts.length then (counts.getD (p - first) 0).toNat else s.wearCount j p := by
  induction counts generalizing s first with
  | nil => rw [if_neg (by simp only [List.length_nil]; omega)]; rfl
  | cons c rest ih =>
    rw [List.length_cons] at hfit ⊢
    rw [loadCounts_cons, ih _ (first + 1) (by omega), wearCount_setWear s k j first p c.toNat (by omega) hp]
    by_cases hj : j = k
    · by_cases hlater : first + 1 ≤ p ∧ p < first + 1 + rest.length
      · have at_rest : (c :: rest).getD (p - first) 0 = rest.getD (p - (first + 1)) 0 := by
          rw [show p - first = p - (first + 1) + 1 by omega, List.getD_cons_succ]
        rw [if_pos ⟨hj, hlater⟩, if_pos ⟨hj, by omega⟩, at_rest]
      · rw [if_neg (fun h => hlater h.2)]
        by_cases hfirst : p = first
        · rw [if_pos ⟨hj, hfirst⟩, if_pos ⟨hj, by omega⟩, hfirst, Nat.sub_self, List.getD_cons_zero]
        · rw [if_neg (fun h => hfirst h.2), if_neg (by omega)]
    · rw [if_neg (fun h => hj h.1), if_neg (fun h => hj h.1), if_neg (fun h => hj h.1)]

/-- The handler of WEAR_LOAD, for a body of whole buses (R96). -/
theorem wearLoad_answers {tag position first count : Byte} {counts : List Byte} {effect : State → State}
    (h1 : 1 ≤ counts.length) (h768 : counts.length ≤ 768) (h96 : counts.length % 96 = 0) (hh : ∀ s,
      (match wearRange position first count with
       | some k =>
         if counts.length ≠ 96 * count.toNat then send ⟨0x53, tag, [0x03]⟩ s
         else send ⟨0x53, tag, [0x00]⟩
           (((wearPlaces first count).zip (chunks 3 (32 * count.toNat) counts)).foldl (loadWear k) s)
       | none => send ⟨0x53, tag, [0x03]⟩ s) = effect s) :
    Answers (.wearLoad tag (position :: first :: count :: counts))
      ⟨0x13, tag, position :: first :: count :: counts⟩ (fun _ => True) effect := by
  refine Answers.of id _ (fun _ => rfl) fun s _ => ?_
  have hlen : loadLength 3 96 (position :: first :: count :: counts).length = true :=
    loadLength_allowed 3 96 counts.length h96
  have hrange : 99 ≤ (position :: first :: count :: counts).length ∧
      (position :: first :: count :: counts).length ≤ 771 := by
    simp only [List.length_cons]
    omega
  rw [hlen, decide_eq_true hrange, Bool.and_self, withLength_allowed]
  exact hh s

theorem chunks_counts (counts : List (BitVec 24)) :
    chunks 3 counts.length (counts.flatMap fun c => le24 c.toNat) = counts.map fun c => le24 c.toNat := by
  simpa using chunks_flatMap 3 (fun c : BitVec 24 => le24 c.toNat) counts [] fun _ _ => rfl

theorem wearLoad_loads (tag first count : Byte) (k : CardId) (counts : List (BitVec 24)) (h1 : 1 ≤ count.toNat)
    (h8 : count.toNat ≤ 8) (h16 : first.toNat + count.toNat ≤ 16) (hl : counts.length = 32 * count.toNat) :
    Answers (.wearLoad tag (BitVec.ofNat 8 k :: first :: count :: counts.flatMap fun c => le24 c.toNat))
      ⟨0x13, tag, BitVec.ofNat 8 k :: first :: count :: counts.flatMap fun c => le24 c.toNat⟩ (fun _ => True)
      fun s => send ⟨0x53, tag, [0x00]⟩ (loadCounts k (32 * first.toNat) counts s) := by
  have hbytes := length_flatMap_of_size 3 (fun c : BitVec 24 => le24 c.toNat) counts fun _ _ => rfl
  refine wearLoad_answers (by omega) (by omega) (by omega) fun s => ?_
  rw [wearRange_some k first count h1 h8 h16]
  simp only
  rw [if_neg (by omega), ← hl, chunks_counts, wearPlaces, ← hl]
  rfl

theorem wearLoad_refuses (tag position first count : Byte) (counts : List Byte) (h1 : 1 ≤ counts.length)
    (h768 : counts.length ≤ 768) (h96 : counts.length % 96 = 0)
    (h : 15 < position.toNat ∨ count = 0 ∨ 8 < count.toNat ∨ 16 < first.toNat + count.toNat ∨
      counts.length ≠ 96 * count.toNat) :
    Refuses (.wearLoad tag (position :: first :: count :: counts)) ⟨0x13, tag, position :: first :: count :: counts⟩
      (fun _ => True) 0x03 := by
  refine wearLoad_answers h1 h768 h96 fun s => ?_
  by_cases hl : counts.length = 96 * count.toNat
  · rw [wearRange_none position first count (by simpa only [hl, ne_eq, not_true_eq_false, or_false] using h)]
    rfl
  · cases wearRange position first count with
    | none => rfl
    | some k => exact if_pos hl

/-! ### One closing (R93, R94) -/

theorem countWear_full (k : CardId) (place : Nat) (h : 16777215 ≤ s.wearCount k place) : countWear k s place = s :=
  if_pos h

/-- A count below its bound increases, and a notice tells of the card's threshold. -/
theorem countWear_counts (k : CardId) (place : Nat) (h : s.wearCount k place < 16777215) : countWear k s place =
    if (s.card k).threshold ≠ 0 ∧ s.wearCount k place + 1 = (s.card k).threshold.toNat then
      wearNotice k place (s.wearCount k place + 1) (setWear k place (s.wearCount k place + 1) s)
    else setWear k place (s.wearCount k place + 1) s := if_neg (Nat.not_le.2 h)

theorem countWear_wear (k : CardId) (place : Nat) (h : s.wearCount k place < 16777215) :
    (countWear k s place).wear = (setWear k place (s.wearCount k place + 1) s).wear := by
  rw [countWear_counts s k place h]
  split
  · rw [wearNotice, notice_only]
  · rfl

/-! ### The closings of a pass (R86) -/

/-- From `s` to `t` every count that `counted` names increases by one up to its bound, and no other count changes. -/
def Counts (counted : CardId → Nat → Prop) (s t : State) : Prop :=
  ∀ j p, p < 512 →
    (counted j p ∧ s.wearCount j p < 16777215 → t.wearCount j p = s.wearCount j p + 1) ∧
    (¬ (counted j p ∧ s.wearCount j p < 16777215) → t.wearCount j p = s.wearCount j p)

variable {s} in
theorem Counts.congr {c d : CardId → Nat → Prop} {t : State} (h : Counts c s t) (hcd : ∀ j p, p < 512 → (c j p ↔ d j p)) :
    Counts d s t := by
  intro j p hp
  rw [← hcd j p hp]
  exact h j p hp

theorem countWear_countsOne (k : CardId) (place : Nat) (hplace : place < 512) :
    Counts (fun j p => j = k ∧ p = place) s (countWear k s place) := by
  intro j p hp
  by_cases hfull : s.wearCount k place < 16777215
  · have eq := (wearCount_congr (countWear_wear s k place hfull) j p).trans
      (wearCount_setWear s k j place p _ hplace hp)
    refine ⟨fun ⟨⟨hj, hpl⟩, _⟩ => ?_, fun h => ?_⟩
    · rw [eq, if_pos ⟨hj, hpl⟩, hj, hpl]
    · rw [eq, if_neg fun ⟨hj, hpl⟩ => h ⟨⟨hj, hpl⟩, by rw [hj, hpl]; exact hfull⟩]
  · rw [countWear_full s k place (Nat.not_lt.1 hfull)]
    exact ⟨fun ⟨⟨hj, hpl⟩, h⟩ => absurd (by rwa [hj, hpl] at h) hfull, fun _ => rfl⟩

/-- Closings that no two operations share are counted once each. -/
theorem Counts.foldl {α : Type} {f : State → α → State} {counted : α → CardId → Nat → Prop} (xs : List α) (s : State)
    (hone : ∀ t, ∀ x ∈ xs, Counts (counted x) t (f t x))
    (hapart : xs.Pairwise fun x y => ∀ j p, counted x j p → ¬ counted y j p) :
    Counts (fun j p => ∃ x ∈ xs, counted x j p) s (xs.foldl f s) := by
  induction xs generalizing s with
  | nil => exact fun j p _ => ⟨by simp, fun _ => rfl⟩
  | cons x rest ih =>
    rw [List.pairwise_cons] at hapart
    obtain ⟨hx, hrest⟩ := hapart
    intro j p hp
    obtain ⟨one, other⟩ := hone s x List.mem_cons_self j p hp
    obtain ⟨later, earlier⟩ := ih (f s x) (fun t y hy => hone t y (List.mem_cons_of_mem x hy)) hrest j p hp
    rw [List.foldl_cons]
    simp only [List.exists_mem_cons_iff]
    by_cases hc : counted x j p
    · have none_later : ¬ ∃ y ∈ rest, counted y j p := fun ⟨y, hy, h⟩ => hx y hy j p hc h
      rw [earlier fun h => none_later h.1]
      exact ⟨fun h => one ⟨hc, h.2⟩, fun h => other fun h' => h ⟨.inl h'.1, h'.2⟩⟩
    · rw [other fun h => hc h.1] at later earlier
      simp only [hc, false_or]
      exact ⟨later, earlier⟩

theorem mem_setPlaces {w : BitVec 512} {p : Nat} (hp : p < 512) : p ∈ setPlaces w ↔ w.getLsbD p = true := by
  simp [setPlaces, hp]

/-- The order of the closings: card by card, and within each its places in order of bus and node. -/
theorem countNoted_eq : countNoted s = allCards.foldl
    (fun t k => ((List.range 512).filter fun p => (s.chain.noted[k]).getLsbD p).foldl (countWear k) t) s := by
  simp only [countNoted, setPlaces]

theorem countPlaces_counts (k : CardId) (w : BitVec 512) :
    Counts (fun j p => j = k ∧ w.getLsbD p = true) s ((setPlaces w).foldl (countWear k) s) := by
  have nodup : (setPlaces w).Nodup := List.nodup_range.filter _
  have all := Counts.foldl (counted := fun place j p => j = k ∧ p = place) (setPlaces w) s
    (fun t place h => countWear_countsOne t k place (lt_of_mem_setPlaces h))
    (nodup.imp fun hne j p hx hy => hne (hx.2.symm.trans hy.2))
  refine all.congr fun j p hp => ?_
  rw [← mem_setPlaces hp]
  exact ⟨fun ⟨_, hm, hj, he⟩ => ⟨hj, he ▸ hm⟩, fun ⟨hj, hm⟩ => ⟨p, hm, hj, rfl⟩⟩

theorem allCards_sorted : allCards.Pairwise (· < ·) := by decide

/-- The completion of a pass counts the closings noted at its latch, and no other. -/
theorem countNoted_counts : Counts (fun k p => (s.chain.noted[k]).getLsbD p = true) s (countNoted s) := by
  have one (t : State) (k : CardId) : Counts (fun j p => j = k ∧ (s.chain.noted[k]).getLsbD p = true) t
      ((setPlaces s.chain.noted[k]).foldl (countWear k) t) := countPlaces_counts t k s.chain.noted[k]
  have all := Counts.foldl allCards s (fun t k _ => one t k)
    (allCards_sorted.imp fun hlt j p hx hy => hlt.ne (hx.1.symm.trans hy.1))
  exact all.congr fun j p _ => ⟨fun ⟨_, _, hj, h⟩ => hj ▸ h, fun h => ⟨j, mem_allCards j, rfl, h⟩⟩

/-- Settles O29: WEAR_LOAD from `loadCounts`, the closings from `Counts`. -/
theorem wearIsLoadedAndCounted : Obligations.WearIsLoadedAndCounted := by
  refine ⟨⟨?_, wearLoad_refuses⟩, fun s k p hp => ?_, countNoted_eq,
    fun k p s hp => ⟨countWear_full s k p, fun h => ?_⟩⟩
  · intro tag first count k counts s h1 h8 h16 hl body ht
    refine ⟨(loadCounts k (32 * first.toNat) counts (taken ⟨0x13, tag, body⟩ s)).wear, ?_, fun j p hp => ?_⟩
    · rw [← loadCounts_only]
      exact wearLoad_loads tag first count k counts h1 h8 h16 hl s ht trivial
    · refine (loadCounts_wearCount _ k (32 * first.toNat) counts (by omega) j p hp).trans ?_
      rw [wearCount_congr (taken_wear s _) j p, hl, ← Nat.mul_add]
  · obtain ⟨one, other⟩ := countNoted_counts s k p hp
    split
    · exact one ‹_›
    · exact other ‹_›
  · refine ⟨(setWear k p (s.wearCount k p + 1) s).wear, fun j q hq => ?_, countWear_counts s k p h⟩
    exact wearCount_setWear s k j p q _ hp hq

end Sys2Proof.Machine
end

section
/-! What a site does leaves the card table as it is: the operations of the runners, up to the steps that an event selects. The
marks and the phase of the chain may change with them, the cards do not (R77, R81). -/

namespace Sys2Proof.Machine

variable {s t : State} {cards : Vector Card 16}

/-- The card table of the state is `cards`. -/
structure HasCards (cards : Vector Card 16) (s : State) : Prop where
  eq : s.chain.cards = cards

theorem HasCards.setSite {n : SiteId} {c : Site} (h : HasCards cards s) : HasCards cards (s.setSite n c) := ⟨h.eq⟩

theorem HasCards.setPort {i : InstrId} {p : Port} (h : HasCards cards s) : HasCards cards (s.setPort i p) := ⟨h.eq⟩

theorem HasCards.setLease {i : InstrId} {l : Lease} (h : HasCards cards s) : HasCards cards (s.setLease i l) := ⟨h.eq⟩

theorem HasCards.ite {c : Prop} [Decidable c] (ht : c → HasCards cards s) (hu : ¬c → HasCards cards t) :
    HasCards cards (if c then s else t) := by
  split
  · exact ht ‹_›
  · exact hu ‹_›

theorem HasCards.foldl {α : Type} {f : State → α → State} (hone : ∀ s a, HasCards cards s → HasCards cards (f s a))
    (h : HasCards cards s) {xs : List α} : HasCards cards (xs.foldl f s) :=
  foldl_keeps s (HasCards cards) f xs hone h

/-! ### Notices, the chain, the routes -/

theorem notice_cards {kind : Byte} {body : List Byte} (h : HasCards cards s) : HasCards cards (notice kind body s) := by
  rw [notice_only]
  exact ⟨h.eq⟩

theorem beginPass_cards (h : HasCards cards s) : HasCards cards (beginPass s) := by
  simp only [beginPass]
  split <;> exact ⟨h.eq⟩

theorem chainKick_cards (h : HasCards cards s) : HasCards cards (chainKick s) :=
  .ite (fun _ => beginPass_cards h) fun _ => h

theorem breakEntry_cards {e : EntryId} (h : HasCards cards s) : HasCards cards (breakEntry s e) := by
  unfold breakEntry
  split
  · exact .ite (fun _ => ⟨h.eq⟩) fun _ => h
  · exact h

theorem breakEntries_cards {es : List EntryId} (h : HasCards cards s) : HasCards cards (breakEntries es s) :=
  .ite (fun _ => h) fun _ => chainKick_cards (h.foldl fun _ _ => breakEntry_cards)

theorem createRoute_cards {e : EntryId} {r : LiveRoute} (h : HasCards cards s) : HasCards cards (createRoute e r s) :=
  chainKick_cards ⟨h.eq⟩

/-! ### Ends of a step, posts -/

theorem finishStep_cards {n : SiteId} {failed : Bool} {bin : Option Bin} (h : HasCards cards s) :
    HasCards cards (finishStep n failed bin s) := by
  simp only [finishStep]
  split
  · exact h
  · exact .ite (fun _ => ⟨h.eq⟩) fun _ => notice_cards h.setSite

theorem abandonStep_cards {n : SiteId} (h : HasCards cards s) : HasCards cards (abandonStep n s) := by
  rw [abandonStep_shape s n]
  exact ⟨h.eq⟩

theorem handover_cards {i : InstrId} (h : HasCards cards s) : HasCards cards (handover i s) := by
  rw [handover_eq]
  exact h.setLease

theorem readyIf_cards {b : Bool} {filed : ResultRecord} (h : HasCards cards s) : HasCards cards (readyIf b filed s) :=
  .ite (fun _ => notice_cards h) fun _ => h

theorem completeMeasure_cards {n : SiteId} {f : MeasureFields} {j : Judged} (h : HasCards cards s) :
    HasCards cards (completeMeasure n f j s) :=
  finishStep_cards (.ite (fun _ => ⟨h.eq⟩) fun _ => h.setSite)

theorem writeZero_cards {e : Option EntryId} {z : Int} (h : HasCards cards s) : HasCards cards (writeZero e z s) := by
  unfold writeZero
  split
  · split
    · exact ⟨h.eq⟩
    · exact h
  · exact h

theorem directError_cards {n : SiteId} {err : StepError} (h : HasCards cards s) :
    HasCards cards (directError n err s) := by
  simp only [directError]
  split
  · exact notice_cards h.setSite
  · exact h

theorem completeZero_cards {n : SiteId} {j : Judged} (h : HasCards cards s) : HasCards cards (completeZero n j s) :=
  .ite (fun _ => .ite (fun _ => ⟨h.eq⟩) fun _ => directError_cards h.setSite) fun _ =>
    finishStep_cards (writeZero_cards h).setSite

theorem completeMeasurement_cards {n : SiteId} {j : Judged} (h : HasCards cards s) :
    HasCards cards (completeMeasurement n j s) := by
  unfold completeMeasurement
  split
  · exact completeMeasure_cards h
  · exact completeZero_cards h
  · exact h

theorem admitPost_cards {n : SiteId} (h : HasCards cards s) : HasCards cards (admitPost n s) := by
  simp only [admitPost]
  split
  · split
    · exact readyIf_cards (completeMeasurement_cards ⟨h.eq⟩)
    · exact h
  · exact h

theorem examineSpace_cards (h : HasCards cards s) : HasCards cards (examineSpace s) :=
  examineList_keeps s (HasCards cards) _ (fun _ _ h => ⟨h.eq⟩) (fun _ _ _ => admitPost_cards) h

/-! ### Teardown -/

theorem recordPhase_cards {n : SiteId} (h : HasCards cards s) : HasCards cards (recordPhase n s) :=
  .ite (fun _ => examineSpace_cards (readyIf_cards (notice_cards ⟨h.eq⟩))) fun _ => h.setSite.setSite

theorem releasePhase_cards {n : SiteId} (h : HasCards cards s) : HasCards cards (releasePhase n s) :=
  recordPhase_cards (h.setSite.foldl fun _ _ hu => .ite (fun _ => handover_cards hu) fun _ => hu)

theorem breakPhase_cards {n : SiteId} (h : HasCards cards s) : HasCards cards (breakPhase n s) :=
  .ite (fun _ => releasePhase_cards (breakEntries_cards h.setSite)) fun _ => breakEntries_cards h.setSite

theorem askSourceOff_cards {n : SiteId} {i : InstrId} (h : HasCards cards s) : HasCards cards (askSourceOff n s i) :=
  .ite (fun _ => h.setPort) fun _ => .ite (fun _ => h.setPort.setPort) fun _ => h.setPort

theorem quietPhase_cards {n : SiteId} (h : HasCards cards s) : HasCards cards (quietPhase n s) :=
  .ite (fun _ => breakPhase_cards h.setSite) fun _ => h.setSite.foldl fun _ _ => askSourceOff_cards

theorem runTeardown_cards {n : SiteId} (h : HasCards cards s) : HasCards cards (runTeardown n s) :=
  .ite (fun _ => quietPhase_cards (abandonStep_cards h)) fun _ => h

theorem teardownEntry_cards {n : SiteId} {cause : Cause} {err : Option StepError} (h : HasCards cards s) :
    HasCards cards (teardownEntry n cause err s) := by
  refine .ite (fun _ => ?_) fun _ => h
  split
  · exact .ite (fun _ => notice_cards h.setSite) fun _ => h.setSite
  · exact h.setSite

theorem enterTeardown_cards {n : SiteId} {cause : Cause} {err : Option StepError} (h : HasCards cards s) :
    HasCards cards (enterTeardown n cause err s) :=
  .ite (fun _ => runTeardown_cards (teardownEntry_cards h)) fun _ => h

theorem stepError_cards {n : SiteId} {err : StepError} (h : HasCards cards s) : HasCards cards (stepError n err s) := by
  refine .ite (fun _ => enterTeardown_cards h) fun _ => .ite (fun _ => ?_) fun _ => h
  split
  · exact notice_cards (abandonStep_cards h).setSite
  · exact h

/-! ### The step kinds -/

theorem acquireStep_cards {n : SiteId} {i : InstrId} (h : HasCards cards s) : HasCards cards (acquireStep n i s) := by
  refine .ite (fun _ => finishStep_cards h) fun _ => .ite (fun _ => stepError_cards h) fun _ => ?_
  split
  · exact finishStep_cards h.setLease
  · exact h.setLease.setSite

theorem releaseStep_cards {n : SiteId} {i : InstrId} (h : HasCards cards s) : HasCards cards (releaseStep n i s) :=
  .ite (fun _ => finishStep_cards h) fun _ => .ite (fun _ => stepError_cards h) fun _ =>
    .ite (fun _ => finishStep_cards (handover_cards h)) fun _ => (breakEntries_cards h).setSite

theorem connectStep_cards {n : SiteId} {d : Byte} (h : HasCards cards s) : HasCards cards (connectStep n d s) := by
  unfold connectStep
  split
  · exact stepError_cards h
  · exact finishStep_cards h
  · exact h.setSite.setSite
  · exact (createRoute_cards h).setSite.setSite

theorem disconnectStep_cards {n : SiteId} {d : Byte} (h : HasCards cards s) :
    HasCards cards (disconnectStep n d s) := by
  unfold disconnectStep
  split
  · exact finishStep_cards h
  · exact .ite (fun _ => finishStep_cards (breakEntries_cards h)) fun _ => stepError_cards h

theorem disconnectAllStep_cards {n : SiteId} (h : HasCards cards s) : HasCards cards (disconnectAllStep n s) :=
  .ite (fun _ => finishStep_cards (breakEntries_cards h)) fun _ => stepError_cards h

theorem sendCommand_cards {n : SiteId} {i : InstrId} {c : PortCommand} (h : HasCards cards s) :
    HasCards cards (sendCommand n i c s) := by
  cases c with
  | configure f => exact h.setPort.setPort.setPort
  | output on => exact h.setPort.setPort
  | sample => exact h.setSite.setPort

theorem portStep_cards {n : SiteId} {i : InstrId} {c : PortCommand} (h : HasCards cards s) :
    HasCards cards (portStep n i c s) := by
  refine .ite (fun _ => stepError_cards h) fun _ => .ite (fun _ => stepError_cards h) fun _ => ?_
  split
  · exact stepError_cards h
  · exact finishStep_cards h
  · exact .ite (fun _ => h.setSite) fun _ => sendCommand_cards h.setSite

theorem samplingStep_cards {n : SiteId} {r : StepRecord} (h : HasCards cards s) :
    HasCards cards (samplingStep n r s) := by
  refine .ite (fun _ => stepError_cards h.setSite) fun _ => ?_
  split
  · exact stepError_cards h.setSite
  · exact h.setSite.setSite.setSite
  · exact portStep_cards h.setSite.setSite
  · exact portStep_cards h.setSite
  · exact h.setSite

theorem delayStep_cards {n : SiteId} {d : BitVec 24} (h : HasCards cards s) : HasCards cards (delayStep n d s) :=
  .ite (fun _ => finishStep_cards h) fun _ => h.setSite.setSite

theorem signalStep_cards {n : SiteId} {mask : Byte} (h : HasCards cards s) : HasCards cards (signalStep n mask s) :=
  .ite (fun _ => finishStep_cards h) fun _ => finishStep_cards (notice_cards h.setSite)

theorem waitFlagStep_cards {n : SiteId} {mask : Byte} {mode : FlagMode} {timeout : BitVec 16} (h : HasCards cards s) :
    HasCards cards (waitFlagStep n mask mode timeout s) :=
  .ite (fun _ => finishStep_cards h.setSite) fun _ => h.setSite.setSite

theorem performStep_cards {n : SiteId} {r : StepRecord} (h : HasCards cards s) : HasCards cards (performStep n r s) := by
  unfold performStep
  split
  · exact acquireStep_cards h
  · exact releaseStep_cards h
  · exact connectStep_cards h
  · exact disconnectStep_cards h
  · exact disconnectAllStep_cards h
  · exact portStep_cards h
  · exact portStep_cards h
  · exact samplingStep_cards h
  · exact samplingStep_cards h
  · exact delayStep_cards h
  · exact signalStep_cards h
  · exact waitFlagStep_cards h
  · exact finishStep_cards h

theorem takeStep_cards {n : SiteId} {k : Nat} (h : HasCards cards s) : HasCards cards (takeStep n k s) := by
  unfold takeStep
  split
  · exact stepError_cards h.setSite
  · exact performStep_cards h.setSite

theorem runTodo_cards {n : SiteId} {todo : Todo} (h : HasCards cards s) : HasCards cards (runTodo n todo s) := by
  refine .ite (fun _ => ?_) fun _ => h
  cases todo with
  | take k => exact takeStep_cards h
  | enter cause err => exact enterTeardown_cards h

/-- The steps that an event has selected leave the card table as it is. -/
theorem settle_cards (h : HasCards cards s) : HasCards cards (settle s) :=
  settle_keeps s (HasCards cards) (fun _ _ h => ⟨h.eq⟩) (fun _ _ _ => runTodo_cards) h

theorem deliverRouteFault_cards {n : SiteId} (h : HasCards cards s) : HasCards cards (deliverRouteFault s n) :=
  .ite (fun _ => stepError_cards h) fun _ => h

end Sys2Proof.Machine
end

section
/-! Discovery, the beginning of a pass and the refresh timer (O31; R80, R81, R88). -/

namespace Sys2Proof.Machine

variable (s : State)

/-! ### Cards changed one after another -/

theorem card_of_set {s t : State} {k : CardId} {c : Card} (h : t.chain.cards = s.chain.cards.set k c) (j : CardId) :
    t.card j = if j = k then c else s.card j := by
  have eq : t.card j = (s.setCard k c).card j := congrArg (·[j]) h
  rw [eq]
  split
  · rename_i hj
    rw [hj, State.setCard_card_same]
  · rename_i hj
    exact State.setCard_card_other s k c j (Ne.symm hj)

/-- Card after card changes, each by itself. -/
theorem foldl_cards {f : State → CardId → State} {g : CardId → Card → Card}
    (hone : ∀ t k, (f t k).chain.cards = t.chain.cards.set k (g k (t.card k))) (ks : List CardId) (hd : ks.Nodup)
    (j : CardId) : (ks.foldl f s).card j = if j ∈ ks then g j (s.card j) else s.card j := by
  induction ks generalizing s with
  | nil => rfl
  | cons k rest ih =>
    rw [List.nodup_cons] at hd
    obtain ⟨hk, hrest⟩ := hd
    rw [List.foldl_cons, ih (f s k) hrest, card_of_set (hone s k) j]
    by_cases hj : j = k
    · subst hj
      rw [if_neg hk, if_pos rfl, if_pos List.mem_cons_self]
    · simp only [List.mem_cons, hj, false_or, if_false]

theorem foldl_allCards {f : State → CardId → State} {g : CardId → Card → Card}
    (hone : ∀ t k, (f t k).chain.cards = t.chain.cards.set k (g k (t.card k))) (j : CardId) :
    (allCards.foldl f s).card j = g j (s.card j) := by
  rw [foldl_cards s hone allCards (allCards_sorted.imp fun h => h.ne), if_pos (mem_allCards j)]

/-- Operations that write their own card alone leave a new card table, and nothing else. -/
theorem foldl_setCard {f : State → CardId → State} {g : CardId → Card → Card}
    (hone : ∀ t k, f t k = t.setCard k (g k (t.card k))) :
    allCards.foldl f s = s.setChain { s.chain with cards := Vector.ofFn fun k => g k (s.card k) } := by
  have only : allCards.foldl f s = s.setChain { s.chain with cards := (allCards.foldl f s).chain.cards } := by
    refine foldl_keeps s (fun t => t = s.setChain { s.chain with cards := t.chain.cards }) f allCards ?_ rfl
    intro t k ht
    rw [hone, ht]
    rfl
  have cards : (allCards.foldl f s).chain.cards = Vector.ofFn fun k => g k (s.card k) := by
    refine Vector.ext fun i hi => ?_
    rw [Vector.getElem_ofFn]
    exact foldl_allCards s (fun t k => by rw [hone]; rfl) ⟨i, hi⟩
  rw [only, cards]

/-! ### Discovery (R80) -/

/-- A controller that is idle begins the pass that is owed (R81). -/
theorem chainKick_atIdle (h : s.chain.phase = .idle) :
    chainKick s = if s.chain.dirty = true ∨ s.chain.passDue = true then beginPass s else s :=
  (chainKick_eq s).trans (if_congr (and_iff_right h) rfl rfl)

theorem settle_chainKick (ha : s.agenda = []) (h : s.chain.phase = .idle) :
    settle (chainKick s) = if s.chain.dirty = true ∨ s.chain.passDue = true then beginPass s else s := by
  rw [settle_nil (chainKick s) (by rw [chainKick_only]; exact ha), chainKick_atIdle s h]

/-- A card as its answer to discovery leaves it (R80, steps 3 and 4). -/
def Card.discovered (answer : Option CardAnswer) (c : Card) : Card :=
  match answer with
  | none => { c with state := .absent, id := none, latched := 0, relearn := false }
  | some a =>
    if a.bits = 0 then { c with state := .active, id := some a.id, latched := 0, relearn := false }
    else { Card.faultedBy .readback { c with latched := 0, relearn := false } with id := some a.id }

/-- A card fault changes its own card alone, whatever the sites that hear it do. -/
theorem cardFault_cards (k : CardId) (cause : CardCause) (id returned : Option Byte) (differ : List Nat) (pass : Nat) :
    (cardFault k cause id returned differ pass s).chain.cards = s.chain.cards.set k ((s.card k).faultedBy cause) := by
  obtain ⟨routes, -, eq⟩ := cardFault_eq s k cause id returned differ pass
  have own : HasCards (s.chain.cards.set k ((s.card k).faultedBy cause))
      ((s.setCard k ((s.card k).faultedBy cause)).setRoutes routes) := ⟨rfl⟩
  rw [eq, cardNotice]
  exact (notice_cards (own.foldl fun _ _ => deliverRouteFault_cards)).eq

theorem discoverCard_cards (k : CardId) (answer : Option CardAnswer) :
    (discoverCard k answer s).chain.cards = s.chain.cards.set k ((s.card k).discovered answer) := by
  cases answer with
  | none => rfl
  | some a =>
    by_cases hb : a.bits = 0
    · simp only [discoverCard, Card.discovered, if_pos hb, State.setCard_chain]
    · simp only [discoverCard, Card.discovered, if_neg hb, State.setCard_chain]
      have fault := cardFault_cards (s.setCard k { s.card k with latched := 0, relearn := false }) k .readback (s.card k).id
        (some a.id) (setPlaces a.bits) 0
      rw [card_of_set fault k, if_pos rfl, fault, State.setCard_card_same]
      simp only [State.setCard_chain, Vector.set_set]

/-- Where no bit is set, discovery is its entry in the card table alone. -/
theorem discoverCard_clean (k : CardId) (answer : Option CardAnswer) (h : ∀ a, answer = some a → a.bits = 0) :
    discoverCard k answer s = s.setCard k ((s.card k).discovered answer) := by
  cases answer with
  | none => rfl
  | some a => simp only [discoverCard, Card.discovered, if_pos (h a rfl)]

theorem Card.discovered_clean (answer : Option CardAnswer) (c : Card) (h : ∀ a, answer = some a → a.bits = 0) :
    c.discovered answer = { c with
      state := if answer.isSome then .active else .absent, id := answer.map CardAnswer.id, latched := 0
      relearn := false } := by
  cases answer with
  | none => rfl
  | some a => exact if_pos (h a rfl)

/-- The card table after every answer of a discovery. -/
def State.discovered (s : State) (answers : Vector (Option CardAnswer) 16) : State :=
  allCards.foldl (fun t k => discoverCard k answers[k] t) s

theorem discoveryEnd_eq (answers : Vector (Option CardAnswer) 16) (h : s.chain.phase = .discovery) :
    exec (.discoveryEnd answers) s = .next (settle (chainKick ((s.discovered answers).setChain
      { (s.discovered answers).chain with phase := .idle, lastWrite := some (15, 0) }))) := if_pos h

theorem discoveryEnd_elsewhere (answers : Vector (Option CardAnswer) 16) (h : s.chain.phase ≠ .discovery) :
    exec (.discoveryEnd answers) s = .next s := if_neg h

theorem discoveryEnd_card (answers : Vector (Option CardAnswer) 16) (h : s.chain.phase = .discovery) :
    ∃ t, exec (.discoveryEnd answers) s = .next t ∧ ∀ k, t.card k = (s.card k).discovered answers[k] := by
  refine ⟨_, discoveryEnd_eq s answers h, fun k => ?_⟩
  have kept := settle_cards (chainKick_cards (s := (s.discovered answers).setChain
    { (s.discovered answers).chain with phase := .idle, lastWrite := some (15, 0) }) ⟨rfl⟩)
  have found := foldl_allCards s (g := fun k => Card.discovered answers[k]) (fun t k => discoverCard_cards t k answers[k]) k
  exact (congrArg (·[k]) kept.eq).trans found

/-- Where discovery changes the card table alone and no step is selected, the pass that is owed begins (R80, R81). -/
theorem discoveryEnd_begins (answers : Vector (Option CardAnswer) 16) (h : s.chain.phase = .discovery) (ha : s.agenda = [])
    (cards : Vector Card 16) (found : s.discovered answers = s.setChain { s.chain with cards := cards }) :
    exec (.discoveryEnd answers) s = .next
      (let t : State := { s with chain := { s.chain with cards := cards, phase := .idle, lastWrite := some (15, 0) } }
      if s.chain.dirty ∨ s.chain.passDue then beginPass t else t) := by
  rw [discoveryEnd_eq s answers h, found, settle_chainKick (State.setChain _ _) (by exact ha) rfl]
  rfl

/-- Without a bit set and without a step selected, discovery leaves its card table, and the pass that is owed begins. -/
theorem discoveryEnd_clean (answers : Vector (Option CardAnswer) 16) (h : s.chain.phase = .discovery) (ha : s.agenda = [])
    (hb : ∀ (k : CardId) (a : CardAnswer), answers[k] = some a → a.bits = 0) : exec (.discoveryEnd answers) s = .next
      (let t : State := { s with chain := { s.chain with
        cards := Vector.ofFn fun k => { s.card k with
          state := if (answers[k]).isSome then .active else .absent, id := (answers[k]).map CardAnswer.id, latched := 0
          relearn := false }
        phase := .idle, lastWrite := some (15, 0) } }
      if s.chain.dirty ∨ s.chain.passDue then beginPass t else t) := by
  have found : s.discovered answers =
      s.setChain { s.chain with cards := Vector.ofFn fun k => (s.card k).discovered answers[k] } :=
    foldl_setCard s (g := fun k => Card.discovered answers[k]) fun t k => discoverCard_clean t k _ (hb k)
  have clean := funext fun k => Card.discovered_clean answers[k] (s.card k) (hb k)
  rw [clean] at found
  exact discoveryEnd_begins s answers h ha _ found

/-! ### The beginning of a pass (R81, R82) -/

theorem getLsbD_cardBit : ∀ j k : CardId, (1#16 <<< j.val).getLsbD k = decide (j = k) := by decide

theorem activeSet_getLsbD (cards : Vector Card 16) (k : CardId) :
    (activeSet cards).getLsbD k = true ↔ cards[k].state = .active := by
  have one (b : BitVec 16) (j : CardId) :
      (if cards[j].state == .active then b ||| (1#16 <<< j.val) else b).getLsbD k = true ↔
        b.getLsbD k = true ∨ (k = j ∧ cards[k].state = .active) := by
    by_cases hs : cards[j].state = .active
    · rw [if_pos (beq_iff_eq.2 hs), BitVec.getLsbD_or, Bool.or_eq_true, getLsbD_cardBit, decide_eq_true_eq]
      exact or_congr_right ⟨fun h => ⟨h.symm, h ▸ hs⟩, fun h => h.1.symm⟩
    · rw [if_neg (mt beq_iff_eq.1 hs)]
      exact ⟨.inl, fun h => h.resolve_right fun ⟨hk, hk'⟩ => hs (hk ▸ hk')⟩
  have all (ks : List CardId) : ∀ b : BitVec 16,
      (ks.foldl (fun b j => if cards[j].state == .active then b ||| (1#16 <<< j.val) else b) b).getLsbD k = true ↔
        b.getLsbD k = true ∨ (k ∈ ks ∧ cards[k].state = .active) := by
    induction ks with
    | nil => simp
    | cons j rest ih =>
      intro b
      rw [List.foldl_cons, ih, one, List.mem_cons, or_assoc, ← or_and_right]
  rw [activeSet, all, show (0 : BitVec 16) = 0#16 from rfl, BitVec.getLsbD_zero]
  simp only [Bool.false_eq_true, mem_allCards, true_and, false_or]

theorem nextPresent_zero_isSome : (s.nextPresent 0).isSome = true ↔ ∃ k, (s.card k).state ≠ .absent := by
  simp only [State.nextPresent, List.find?_isSome, mem_allCards, true_and, Nat.zero_le, decide_true, Bool.true_and,
    Card.present_iff]

/-- A pass begins: with no card present it stands before its latch at once. -/
theorem beginPass_eq : beginPass s = { s with chain := { s.chain with
    passNumber := s.chain.passNumber + 1, snapshot := s.image, dirty := false, passDue := false
    verifySet := activeSet s.chain.cards, cursor := 0, noted := .allOpen
    phase := if ∃ k, (s.card k).state ≠ .absent then .shift else .latch } } := by
  simp only [beginPass]
  split <;> rename_i h
  · have present : (s.nextPresent 0).isSome = true := congrArg Option.isSome h
    rw [if_pos ((nextPresent_zero_isSome s).1 present)]
    rfl
  · have none_present : (s.nextPresent 0).isSome = false := congrArg Option.isSome h
    rw [if_neg (by simp [← nextPresent_zero_isSome s, none_present])]
    rfl

/-! ### The refresh timer (R88) -/

theorem refreshExpiry_running (t : Timer) (ht : s.chain.refresh = some t) (hi : s.chain.interval ≠ 0) :
    exec .refreshExpiry s = .next (whenRun t (fun s => chainKick (s.setChain { s.chain with
      passDue := true, refresh := limitTimer s.time s.chain.interval.toNat })) s) := by
  show execRefreshExpiry s = _
  simp only [execRefreshExpiry, ht, if_neg hi]

theorem refreshExpiry_stopped (h : s.chain.refresh = none ∨ s.chain.interval = 0) : exec .refreshExpiry s = .next s := by
  show execRefreshExpiry s = _
  unfold execRefreshExpiry
  split
  · rename_i t ht
    exact if_pos (h.resolve_left (by rw [ht]; nofun))
  · rfl

/-- An expiry that is taken sets the pass-due mark, reloads the timer, and an idle controller begins its pass. -/
theorem refreshExpiry_taken (hi : s.chain.interval ≠ 0) :
    let v : State := { s with chain := { s.chain with
      passDue := true, refresh := some ⟨s.time, s.chain.interval.toNat * 1000⟩ } }
    chainKick (s.setChain { s.chain with passDue := true, refresh := limitTimer s.time s.chain.interval.toNat }) =
      if s.chain.phase = .idle then beginPass v else v := by
  rw [limitTimer_byte, if_neg hi, chainKick_eq]
  exact if_congr (and_iff_left (.inr rfl)) rfl rfl

/-- Settles O31: discovery card by card, the pass as it begins, and the refresh timer. -/
theorem discoveryAndRefreshBeginPasses : Obligations.DiscoveryAndRefreshBeginPasses := by
  refine ⟨⟨fun answers s h => ?_, fun answers s h ha hb => discoveryEnd_clean s answers h ha hb,
      fun answers s => discoveryEnd_elsewhere s answers⟩,
    fun s => ⟨_, beginPass_eq s, activeSet_getLsbD s.chain.cards⟩, fun t s ht hi hr => ?_, fun t s ht hi hr => ?_,
    refreshExpiry_stopped⟩
  · obtain ⟨t, eq, card⟩ := discoveryEnd_card s answers h
    refine ⟨t, eq, fun k => (card k).trans ?_⟩
    cases answers[k] <;> rfl
  · rw [refreshExpiry_running s t ht hi, whenRun_behind s t _ hr]
  · have chain : (s.passTo t).chain = s.chain := by rw [passTo_eq]
    rw [refreshExpiry_running s t ht hi, whenRun_reached s t _ hr, refreshExpiry_taken _ (by rwa [chain])]
    exact congrArg _ (if_congr (by rw [chain]) rfl rfl)

end Sys2Proof.Machine
end

section
/-! What a pass does: the write frames, the latch, the completion and the timers of length 0 (O32; R61, R82, R83, R86). -/

namespace Sys2Proof.Machine

variable (s : State)

/-! ### SHIFT (R82) -/

theorem writeFrameSent_at (k : CardId) (h : s.chain.phase = .shift) (hk : s.nextPresent s.chain.cursor = some k) :
    exec .writeFrameSent s = .next { s with chain := { s.chain with
      lastWrite := some (k, s.chain.snapshot[k]), cursor := k + 1
      phase := if ∃ j : CardId, k < j ∧ (s.card j).state ≠ .absent then .shift else .latch } } := by
  show execWriteFrameSent s = _
  simp only [execWriteFrameSent, if_pos h, hk]
  by_cases later : ∃ j : CardId, k < j ∧ (s.card j).state ≠ .absent
  · have some_later := (nextPresent_isSome s k).2 later
    rw [Option.isNone_eq_false_iff.2 some_later, if_pos later]
    rfl
  · have none_later : (s.nextPresent (k.val + 1)).isNone = true := by
      rw [← Option.not_isSome, Bool.not_eq_true', ← Bool.not_eq_true, nextPresent_isSome]
      exact later
    rw [none_later, if_neg later]
    rfl

theorem writeFrameSent_elsewhere (h : s.chain.phase ≠ .shift) : exec .writeFrameSent s = .next s := if_neg h

/-! ### LATCH (R83) -/

/-- The card table after a latch: the snapshot is the latched record of every present card. -/
def State.latchedCards (s : State) : Vector Card 16 := Vector.ofFn fun k =>
  if (s.card k).state = .absent then s.card k else { s.card k with latched := s.chain.snapshot[k] }

/-- What a latch closes. -/
def State.latchedClosings (s : State) : Matrix := Vector.ofFn fun k =>
  if (s.card k).state = .absent then 0 else s.chain.snapshot[k] &&& ~~~(s.card k).latched

/-- The state after a latch. -/
def State.latched (s : State) : State :=
  s.setChain { s.chain with cards := s.latchedCards, noted := s.latchedClosings, cursor := 0, phase := .verify }

theorem latched_card_absent (k : CardId) : (s.latched.card k).state = .absent ↔ (s.card k).state = .absent := by
  have card : s.latched.card k =
      if (s.card k).state = .absent then s.card k else { s.card k with latched := s.chain.snapshot[k] } := by
    simp [State.latched, State.latchedCards, State.card]
  rw [card]
  split <;> rfl

theorem latched_nextPresent : (s.latched.nextPresent 0).isSome = true ↔ ∃ k, (s.card k).state ≠ .absent := by
  simp only [nextPresent_zero_isSome, ne_eq, latched_card_absent]

theorem ite_present {α : Type} (c : Card) (a b : α) :
    (if c.present = true then a else b) = if c.state = .absent then b else a := by
  by_cases h : c.state = .absent
  · rw [if_pos h, if_neg (by simp [Card.present_iff, h])]
  · rw [if_neg h, if_pos ((Card.present_iff c).2 h)]

theorem latch_at (h : s.chain.phase = .latch) : exec .latch s =
    .next (if ∃ k, (s.card k).state ≠ .absent then s.latched else settle (completePass s.latched)) := by
  have cards : (Vector.ofFn fun k : CardId => if s.chain.cards[k].present then
      { s.chain.cards[k] with latched := s.chain.snapshot[k] } else s.chain.cards[k]) = s.latchedCards :=
    congrArg _ (funext fun k => ite_present ..)
  have noted : (Vector.ofFn fun k : CardId => closings s.chain.cards[k] s.chain.snapshot[k]) = s.latchedClosings :=
    congrArg _ (funext fun k => ite_present ..)
  show execLatch s = _
  simp only [execLatch, if_pos h]
  rw [cards, noted]
  split <;> rename_i hn
  · have present : (s.latched.nextPresent 0).isSome = true := congrArg Option.isSome hn
    rw [if_pos ((latched_nextPresent s).1 present)]
    rfl
  · have none_present : (s.latched.nextPresent 0).isSome = false := congrArg Option.isSome hn
    rw [if_neg (by simp [← latched_nextPresent s, none_present])]
    rfl

theorem latch_elsewhere (h : s.chain.phase ≠ .latch) : exec .latch s = .next s := if_neg h

/-! ### The completion (R61, R86) -/

theorem chainKick_completed (t : State) :
    let u : State := { t with chain := { t.chain with phase := .idle, noted := .allOpen } }
    chainKick u = if t.chain.dirty = true ∨ t.chain.passDue = true then beginPass u else u := chainKick_atIdle _ rfl

theorem completePass_eq :
    let t := allEntries.foldl expireAtOnce (routesPassCompletion (countNoted s))
    let u : State := { t with chain := { t.chain with phase := .idle, noted := .allOpen } }
    completePass s = if t.chain.dirty = true ∨ t.chain.passDue = true then beginPass u else u := by
  simp only [completePass]
  exact chainKick_completed _

/-- A make timer of length 0 expires at once. -/
theorem expireAtOnce_making (e : EntryId) (r : LiveRoute) (hr : s.route e = some r) (ht : r.timer = some ⟨s.time, 0⟩)
    (hm : r.state = .making) : expireAtOnce s e = routeMade e r s := by
  simp only [expireAtOnce, hr, if_pos ht, hm]

/-- A release timer of length 0 expires at once. -/
theorem expireAtOnce_breaking (e : EntryId) (r : LiveRoute) (hr : s.route e = some r) (ht : r.timer = some ⟨s.time, 0⟩)
    (hb : r.state = .breaking) : expireAtOnce s e = routeGone e r s := by
  simp only [expireAtOnce, hr, if_pos ht, hb]

theorem expireAtOnce_other (e : EntryId) (h : ∀ r, s.route e = some r →
    r.timer ≠ some ⟨s.time, 0⟩ ∨ (r.state ≠ .making ∧ r.state ≠ .breaking)) : expireAtOnce s e = s := by
  unfold expireAtOnce
  split
  · rename_i r hr
    rcases h r hr with ht | ⟨hm, hb⟩
    · exact if_neg ht
    · split
      · split
        · contradiction
        · contradiction
        · rfl
        · rfl
      · rfl
  · rfl

/-- Settles O32: SHIFT, LATCH and the completion, each from its equation. -/
theorem passWritesAndLatches : Obligations.PassWritesAndLatches := by
  refine ⟨fun k s h hc hk below => writeFrameSent_at s k h (nextPresent_eq s _ k hc hk below), latch_at,
    writeFrameSent_elsewhere, latch_elsewhere, completePass_eq,
    fun e s => ⟨fun r hr ht => ⟨expireAtOnce_making s e r hr ht, expireAtOnce_breaking s e r hr ht⟩,
      expireAtOnce_other s e⟩⟩

end Sys2Proof.Machine
end

section
/-! What leaves on the line of an instrument port when it begins an exchange (R102, R105, R106, R115, R117). -/

namespace Sys2Proof.Machine

variable (s : State)

/-! ### Messages to the adapter -/

theorem sendAwaiting_eq (i : InstrId) (x : PortState) (a : Awaited) (user : PortUser) (kind : Byte) (body : List Byte) :
    sendAwaiting i x a user kind body s = s.setPort i { s.port i with
      state := x, awaited := some a, user := some user, seq := (s.port i).seq + 1
      outstanding := some ((s.port i).seq + 1), rxBytes := []
      respTimer := some ⟨s.time, (s.record i).responseTimeout.toNat * 1000⟩
      lastSent := messageBytes ⟨kind, (s.port i).seq + 1, body⟩ } := by
  simp only [sendAwaiting, transmit, State.setPort_port_same, State.setPort_setPort]
  rfl

theorem sendConfig_eq (i : InstrId) (user : PortUser) (f : ConfigFields) :
    sendConfig i user f s = s.setPort i { s.port i with
      state := .command, awaited := some .config, user := some user, seq := (s.port i).seq + 1
      outstanding := some ((s.port i).seq + 1), rxBytes := [], sentConfig := some f
      respTimer := some ⟨s.time, (s.record i).responseTimeout.toNat * 1000⟩
      lastSent := messageBytes ⟨0x02, (s.port i).seq + 1, [f.function, f.range, f.aperture] ++ le24 f.level.toNat⟩ } := by
  simp only [sendConfig, sendAwaiting_eq, State.setPort_port_same, State.setPort_setPort]
  rfl

theorem sendOutput_eq (i : InstrId) (user : PortUser) (on : Bool) :
    sendOutput i user on s = s.setPort i { s.port i with
      state := .command, awaited := some (if on then .outputOn else .outputOff), user := some user
      seq := (s.port i).seq + 1, outstanding := some ((s.port i).seq + 1), rxBytes := []
      respTimer := some ⟨s.time, (s.record i).responseTimeout.toNat * 1000⟩
      lastSent := messageBytes ⟨0x03, (s.port i).seq + 1, [if on then 1 else 0]⟩ } :=
  sendAwaiting_eq ..

theorem PortState.out_iff (x : PortState) : x.out = true ↔ x = .disabled ∨ x = .offline := by simp [PortState.out]

end Sys2Proof.Machine
end

section
/-! QUIET: the instruments that a teardown asks, and the outcomes it collects (O22; R117, R180, R181). -/

namespace Sys2Proof.Machine

variable (s : State)

/-! ### The instruments asked -/

theorem mem_quietAsked (n : SiteId) (i : InstrId) :
    i ∈ s.quietAsked n ↔ (s.lease i).holder = some n ∧ (s.port i).source ≠ .off := by
  simp [State.quietAsked, mem_allInsts, State.holds_iff]

theorem quietAsked_sorted (n : SiteId) : (s.quietAsked n).Pairwise (· < ·) := .filter _ (by decide)

theorem getLsbD_instBit : ∀ i j : InstrId, (1#6 <<< i.val).getLsbD j = decide (i = j) := by decide

theorem instMask_getLsbD (is : List InstrId) (i : InstrId) : (instMask is).getLsbD i = true ↔ i ∈ is := by
  have all (b : BitVec 6) :
      (is.foldl (fun b i => b ||| (1#6 <<< i.val)) b).getLsbD i = true ↔ b.getLsbD i = true ∨ i ∈ is := by
    induction is generalizing b with
    | nil => simp
    | cons x rest ih =>
      rw [List.foldl_cons, ih, BitVec.getLsbD_or, Bool.or_eq_true, getLsbD_instBit, decide_eq_true_eq, List.mem_cons,
        or_assoc, @eq_comm _ x i]
  refine (all 0).trans ⟨fun h => h.resolve_left ?_, .inr⟩
  simp

/-! ### The source-off at a port -/

theorem askSourceOff_out (n : SiteId) (i : InstrId) (h : (s.port i).state = .disabled ∨ (s.port i).state = .offline) :
    askSourceOff n s i = s.setPort i { s.port i with quietReport := some (n, .notSent) } :=
  if_pos ((PortState.out_iff _).2 h)

theorem askSourceOff_idle (n : SiteId) (i : InstrId) (h : (s.port i).state = .idle) :
    askSourceOff n s i = sendOutput i (.teardown n) false s := by
  simp [askSourceOff, h, PortState.out]

theorem askSourceOff_busy (n : SiteId) (i : InstrId)
    (h : (s.port i).state = .command ∨ (s.port i).state = .triggered ∨ (s.port i).state = .fetching) :
    askSourceOff n s i = s.setPort i { s.port i with sourceOffFor := some n } := by
  rcases h with h | h | h <;> simp [askSourceOff, h, PortState.out]

theorem takeSourceOff_eq (i : InstrId) : takeSourceOff i s =
    match (s.port i).sourceOffFor with
    | none => s
    | some n => askSourceOff n (s.setPort i { s.port i with sourceOffFor := none }) i := by
  cases h : (s.port i).sourceOffFor <;> simp only [takeSourceOff, h]

/-! ### The outcomes -/

theorem quietOutcome_reported (n : SiteId) (i : InstrId) (o : QuietOutcome)
    (h : (s.port i).quietReport = some (n, o)) : exec (.quietOutcome i) s =
      .next (settle (takeOutcome n i o (s.setPort i { s.port i with quietReport := none }))) := by
  show execQuietOutcome i s = _
  simp only [execQuietOutcome, h]

theorem quietOutcome_none (i : InstrId) (h : (s.port i).quietReport = none) : exec (.quietOutcome i) s = .next s := by
  show execQuietOutcome i s = _
  simp only [execQuietOutcome, h]

theorem hot_unless_acked (hot : Bool) (o : QuietOutcome) : (hot || o != .acked) = if o = .acked then hot else true := by
  cases o <;> simp

theorem takeOutcome_quiet_phase (n : SiteId) (i : InstrId) (o : QuietOutcome) (hs : (s.site n).state = .teardown)
    (hp : (s.site n).teardownPhase = some .quiet) : takeOutcome n i o s =
      let left := (s.site n).outstanding &&& ~~~(1#6 <<< i.val)
      let t := s.setSite n { s.site n with
        outstanding := left, hot := if o = .acked then (s.site n).hot else true }
      if left = 0 then breakPhase n t else t := by
  simp only [takeOutcome, hs, hp, and_self, if_true, hot_unless_acked]
  rfl

theorem takeOutcome_other (n : SiteId) (i : InstrId) (o : QuietOutcome)
    (h : (s.site n).state ≠ .teardown ∨ (s.site n).teardownPhase ≠ some .quiet) : takeOutcome n i o s = s :=
  if_neg fun ⟨hs, hp⟩ => h.elim (absurd hs) (absurd hp)

/-- Settles O22: the instruments asked, the source-off at a port in each of its states, and the outcomes. -/
theorem quietAsksAndCollects : Obligations.QuietAsksAndCollects := by
  refine ⟨fun n s => ⟨quietAsked_sorted s n, mem_quietAsked s n, instMask (s.quietAsked n), instMask_getLsbD _, rfl⟩,
    fun i s => takeSourceOff_eq s i, fun n i s => askSourceOff_out s n i, fun n i s h => ?_,
    fun n i s => askSourceOff_busy s n i, fun n i o s h hs hp => ?_, fun n i o s h ha hr => ?_,
    fun i s => quietOutcome_none s i⟩
  · exact (askSourceOff_idle s n i h).trans (sendOutput_eq ..)
  · refine (quietOutcome_reported s n i o h).trans (congrArg Host.Outcome.next ?_)
    exact congrArg settle (takeOutcome_quiet_phase _ n i o hs hp)
  · rw [quietOutcome_reported s n i o h, takeOutcome_other, settle_nil]
    exacts [ha, hr]

end Sys2Proof.Machine
end

section
/-! The port checks of a step, the command it sends, and what a freed port takes up (O41; R114, R115, R116, R117, R128). -/

namespace Sys2Proof.Machine

variable (s : State)

/-! ### A port that is free again -/

/-- A site that waits for the port makes its port checks again (R114). -/
theorem recheckPort_waiting (i j : InstrId) (n : SiteId) (r : StepRecord) (c : PortCommand)
    (hp : (s.site n).phase = .wait .port) (ht : (s.site n).taking = some r) (hc : r.portCommand = some (j, c)) :
    recheckPort i s n = if j = i then portStep n i c (resumeStep n s) else s := by
  simp only [recheckPort, hp, if_true, ht, Option.bind_some, hc]

/-! ### The checks in their order -/

theorem portStep_notHeld (n : SiteId) (i : InstrId) (c : PortCommand) (h : (s.lease i).holder ≠ some n) :
    portStep n i c s = stepError n .noLease s :=
  if_pos (by simpa using mt (s.holds_iff n i).1 h)

theorem portStep_out (n : SiteId) (i : InstrId) (c : PortCommand) (h : (s.lease i).holder = some n)
    (ho : (s.port i).state = .disabled ∨ (s.port i).state = .offline) : portStep n i c s = stepError n .offline s := by
  rw [portStep, if_neg (by simp [(s.holds_iff n i).2 h]), if_pos ((PortState.out_iff _).2 ho)]

/-- On a port in service that the site holds, the checks of the step's own kind decide (R114). -/
theorem portStep_inService (n : SiteId) (i : InstrId) (c : PortCommand) (h : (s.lease i).holder = some n)
    (hd : (s.port i).state ≠ .disabled) (ho : (s.port i).state ≠ .offline) : portStep n i c s =
      match ownCheck s i c with
      | .fails e => stepError n e s
      | .doneAtOnce => finishStep n false none s
      | .passes => if (s.port i).state = .command then waitFor n .port s else sendCommand n i c (resumeStep n s) := by
  have hout : ¬ (s.port i).state.out = true := fun h => ((PortState.out_iff _).1 h).elim hd ho
  exact (if_neg (by simp [(s.holds_iff n i).2 h])).trans (if_neg hout)

theorem ownCheck_incapable (i : InstrId) (h : (s.record i).sourceCapable = false) :
    ownCheck s i (.output true) = .fails .nak ∧ ownCheck s i (.output false) = .doneAtOnce := by
  simp [ownCheck, h]

theorem ownCheck_safe (i : InstrId) (h : (s.record i).sourceCapable = true) (hs : s.safe ≠ ⟨false, false, false⟩) :
    ownCheck s i (.output true) = .fails .safe := by
  simp [ownCheck, h, hs]

theorem ownCheck_hot (i : InstrId) (h : (s.record i).sourceCapable = true) (hs : s.safe = ⟨false, false, false⟩)
    (hr : s.routeMoving i = true) : ownCheck s i (.output true) = .fails .hot := by
  simp [ownCheck, h, hs, hr]

theorem ownCheck_passes (i : InstrId) (c : PortCommand)
    (hon : c = .output true →
      (s.record i).sourceCapable = true ∧ s.safe = ⟨false, false, false⟩ ∧ s.routeMoving i = false)
    (hoff : c = .output false → (s.record i).sourceCapable = true) : ownCheck s i c = .passes := by
  match c with
  | .configure _ | .sample => rfl
  | .output true =>
    obtain ⟨hc, hs, hr⟩ := hon rfl
    simp [ownCheck, hc, hs, hr]
  | .output false => simp [ownCheck, hoff rfl]

/-- Settles O41: the freed port, then the checks of a step in their order, and the command that passes them. -/
theorem portStepsCheckAndSend : Obligations.PortStepsCheckAndSend := by
  refine ⟨⟨fun i s h => if_pos h, fun i s h => if_neg h, fun i n s h => if_neg h, fun i n r s hp ht => ?_⟩,
    fun n i c s => ⟨portStep_notHeld s n i c, portStep_out s n i c, fun hh hd ho => ?_⟩⟩
  · have again {j : InstrId} {c : PortCommand} := recheckPort_waiting s i j n r c hp ht
    refine ⟨fun j f hk => again ?_, fun j on hk => again ?_, fun f hk => again ?_, fun f hk => again ?_⟩ <;>
      simp only [StepRecord.portCommand, hk]
  · rw [portStep_inService s n i c hh hd ho]
    refine ⟨?_, ?_, ?_, ?_, fun hon hoff => ?_⟩
    · rintro rfl hc
      rw [(ownCheck_incapable s i hc).1]
    · rintro rfl hc hs
      rw [ownCheck_safe s i hc hs]
    · rintro rfl hc hs hr
      rw [ownCheck_hot s i hc hs hr]
    · rintro rfl hc
      rw [(ownCheck_incapable s i hc).2]
    · rw [ownCheck_passes s i c hon hoff]
      refine ⟨fun hcmd => if_pos hcmd, fun hcmd => (if_neg hcmd).trans ?_⟩
      cases c with
      | configure f => exact sendConfig_eq ..
      | output on => exact sendOutput_eq ..
      | sample => simp only [sendCommand, resumeStep, State.setSite_site_same]

end Sys2Proof.Machine
end

section
/-! RDY and its filter, the trigger and its pulse (O40; R99, R110, R111, R112). -/

namespace Sys2Proof.Machine

variable (s : State)

theorem passTo_port (t : Timer) (i : InstrId) : (s.passTo t).port i = s.port i := by rw [passTo_eq]; rfl

theorem passTo_record (t : Timer) (i : InstrId) : (s.passTo t).record i = s.record i := by rw [passTo_eq]; rfl

/-! ### RDY -/

/-- A port as its filtered RDY level changes (R110, R111): in TRIGGERED a fall sets the mark, and a rise with the mark is
stamped and answered by READ. -/
def Port.rdyChanged (now : Time) (r : InstrRecord) (level : Bool) (p : Port) : Port :=
  if p.state = .triggered ∧ level = false then { p with filteredRdy := false, mark := true }
  else if p.state = .triggered ∧ p.mark = true then
    { p with
      filteredRdy := true, readyStamp := now, state := .fetching, awaited := some .read, seq := p.seq + 1
      outstanding := some (p.seq + 1), rxBytes := [], respTimer := some ⟨now, r.responseTimeout.toNat * 1000⟩
      lastSent := messageBytes ⟨0x04, p.seq + 1, []⟩ }
  else { p with filteredRdy := level }

theorem rdyChanged_eq (i : InstrId) (level : Bool) :
    rdyChanged i level s = s.setPort i ((s.port i).rdyChanged s.time (s.record i) level) := by
  by_cases ht : (s.port i).state = .triggered
  · cases level with
    | false => simp [rdyChanged, Port.rdyChanged, ht, State.setPort_setPort]
    | true =>
      by_cases hm : (s.port i).mark = true
      · simp only [rdyChanged, Port.rdyChanged, ht, hm, sendRead, transmit, State.setPort_port_same,
          State.setPort_setPort, if_true, and_self, Bool.true_eq_false, and_false, if_false, Bool.not_true,
          Bool.false_eq_true]
        rfl
      · simp [rdyChanged, Port.rdyChanged, ht, hm]
  · simp [rdyChanged, Port.rdyChanged, ht]

theorem rdyRawChange_changed (i : InstrId) (level : Bool) (h : level ≠ (s.port i).rawRdy) :
    exec (.rdyRawChange i level) s = .next
      (if (s.record i).rdyFilter = 0 ∧ level ≠ (s.port i).filteredRdy then
        rdyChanged i level (s.setPort i { s.port i with rawRdy := level, rdyChange := s.time })
      else s.setPort i { s.port i with rawRdy := level, rdyChange := s.time }) := by
  show execRdyRawChange i level s = _
  simp only [execRdyRawChange, if_neg h]
  split <;> rfl

theorem rdyRawChange_same (i : InstrId) : exec (.rdyRawChange i (s.port i).rawRdy) s = .next s := if_pos rfl

theorem rdyFilteredChange_pending (i : InstrId) (h : (s.port i).rawRdy ≠ (s.port i).filteredRdy) :
    exec (.rdyFilteredChange i) s = .next
      (whenRun ⟨(s.port i).rdyChange, (s.record i).rdyFilter.toNat⟩ (rdyChanged i (s.port i).rawRdy) s) := if_neg h

theorem rdyFilteredChange_none (i : InstrId) (h : (s.port i).rawRdy = (s.port i).filteredRdy) :
    exec (.rdyFilteredChange i) s = .next s := if_pos h

/-! ### The trigger -/

/-- The pulse that ends last of one that begins and one that may run (R99; log entry 20). -/
theorem Timer.orLater_started (width : Nat) (running : Option Timer) (now : Time) :
    Timer.orLater ⟨now, width⟩ running now =
      match running with
      | some t => if width + (now - t.start).toNat < t.duration then t else ⟨now, width⟩
      | none => ⟨now, width⟩ := by
  cases running with
  | none => rfl
  | some t =>
    have hlt : width < t.remaining now ↔ width + (now - t.start).toNat < t.duration := Nat.lt_sub_iff_add_lt
    simp only [Timer.orLater, Timer.remaining_started, hlt]

theorem giveTrigger_eq (n : SiteId) (i : InstrId) : giveTrigger n i s = s.setPort i { s.port i with
    state := .triggered, awaited := none, user := some (.site n), outstanding := none, spacing := none
    respTimer := some ⟨s.time, (s.record i).responseTimeout.toNat * 1000⟩
    pulse := some (match (s.port i).pulse with
      | some t =>
        if (s.record i).triggerWidth.toNat + (s.time - t.start).toNat < t.duration then t
        else ⟨s.time, (s.record i).triggerWidth.toNat⟩
      | none => ⟨s.time, (s.record i).triggerWidth.toNat⟩)
    triggerStamp := s.time, mark := !(s.port i).filteredRdy } := by
  simp only [giveTrigger, Timer.orLater_started]
  rfl

theorem triggerSpacing_waiting (n : SiteId) (i : InstrId) (t : Timer) (h : (s.port i).spacing = some (n, t))
    (hi : (s.port i).state = .idle) : exec (.triggerSpacing i) s = .next (whenRun t (giveTrigger n i) s) := by
  show execTriggerSpacing i s = _
  simp only [execTriggerSpacing, h, hi, if_true]

theorem triggerSpacing_none (i : InstrId) (h : (s.port i).spacing = none ∨ (s.port i).state ≠ .idle) :
    exec (.triggerSpacing i) s = .next s := by
  show execTriggerSpacing i s = _
  unfold execTriggerSpacing
  split
  · rename_i hs
    exact if_neg (h.resolve_left (by simp [hs]))
  · rfl

theorem triggerPulseEnd_running (i : InstrId) (t : Timer) (h : (s.port i).pulse = some t) :
    exec (.triggerPulseEnd i) s =
      .next (whenRun t (fun s => s.setPort i { s.port i with pulse := none }) s) := by
  show execTriggerPulseEnd i s = _
  simp only [execTriggerPulseEnd, h]

theorem triggerPulseEnd_none (i : InstrId) (h : (s.port i).pulse = none) : exec (.triggerPulseEnd i) s = .next s := by
  show execTriggerPulseEnd i s = _
  simp only [execTriggerPulseEnd, h]

/-- Settles O40: the filter of RDY, the trigger, and the expiries of its pulse and its spacing. -/
theorem triggersAndReadyAreTimed : Obligations.TriggersAndReadyAreTimed := by
  refine ⟨fun i s => ⟨fun level hl => ?_, fun hp hr => ?_, fun hp hr => ?_, rdyRawChange_same s i,
    rdyFilteredChange_none s i⟩, fun n i s => giveTrigger_eq s n i, fun n i t s hs hi => ⟨fun hr => ?_, fun hr => ?_⟩,
    fun i t s hp => ⟨fun hr => ?_, fun hr => ?_⟩, fun i s => triggerSpacing_none s i,
    fun i s => triggerPulseEnd_none s i⟩
  · rw [rdyRawChange_changed s i level hl, rdyChanged_eq]
    rfl
  · rw [rdyFilteredChange_pending s i hp, whenRun_behind s _ _ hr]
  · rw [rdyFilteredChange_pending s i hp, whenRun_reached s _ _ hr, rdyChanged_eq]
    rfl
  · rw [triggerSpacing_waiting s n i t hs hi, whenRun_reached s _ _ hr]
  · rw [triggerSpacing_waiting s n i t hs hi, whenRun_behind s _ _ hr]
  · rw [triggerPulseEnd_running s i t hp, whenRun_reached s _ _ hr, passTo_port]
  · rw [triggerPulseEnd_running s i t hp, whenRun_behind s _ _ hr]

end Sys2Proof.Machine
end

section
/-! The receiver of a port: what it makes of the bytes of one message, byte by byte (R99, R100, R102, R205). -/

namespace Sys2Proof.Machine

/-! ### The hunt over one message -/

theorem hunt_skips {α : Type} (start : Byte) (judge : List Byte → Verdict1 α) (bs : List Byte) (k : Nat)
    (h : bs.length ≤ k) : hunt start judge bs k = ([], []) := by
  induction bs generalizing k with
  | nil => cases k <;> rfl
  | cons b rest ih =>
    cases k with
    | zero => simp at h
    | succ k => exact ih k (by simpa using h)

theorem hunt_silent {α : Type} (start : Byte) (judge : List Byte → Verdict1 α) (bs : List Byte) (h : start ∉ bs) :
    hunt start judge bs 0 = ([], []) := by
  induction bs with
  | nil => rfl
  | cons b rest ih =>
    rw [List.mem_cons, not_or] at h
    rw [hunt, if_neg (Ne.symm h.1), ih h.2]

theorem huntMessages_more (rest : List Byte) (h : judgeMessage (0x5A :: rest) = .more) :
    huntMessages (0x5A :: rest) = ([], 0x5A :: rest) := by
  rw [huntMessages, hunt, if_pos rfl, h]

theorem huntMessages_whole (rest : List Byte) (e : PortEvent) (n : Nat) (h : judgeMessage (0x5A :: rest) = .whole e n)
    (hn : rest.length ≤ n - 1) : huntMessages (0x5A :: rest) = ([e], []) := by
  rw [huntMessages, hunt, if_pos rfl, h]
  simp only [hunt_skips _ _ rest _ hn]

theorem huntMessages_drop (rest : List Byte) (e : PortEvent) (h : judgeMessage (0x5A :: rest) = .drop e)
    (hs : 0x5A ∉ rest) : huntMessages (0x5A :: rest) = ([e], []) := by
  rw [huntMessages, hunt, if_pos rfl, h]
  simp only [hunt_silent _ _ rest hs]

/-! ### The bytes of a message -/

/-- The bytes from the start byte to the end of the body, a checksum short of the whole. -/
def messageHead (m : PortMessage) : List Byte := [0x5A] ++ messageCore m

theorem messageHead_eq (m : PortMessage) :
    messageHead m = 0x5A :: m.kind :: m.seq :: BitVec.ofNat 8 m.body.length :: m.body := rfl

theorem messageBytes_eq (m : PortMessage) : messageBytes m = messageHead m ++ [-(byteSum (messageCore m))] := rfl

theorem byteSum_concat (bs : List Byte) (c : Byte) : byteSum (bs ++ [c]) = byteSum bs + c := by
  simp [byteSum, List.foldl_append]

/-- Up to its checksum a message is not complete. -/
theorem huntMessages_prefix (m : PortMessage) (hb : m.body.length ≤ 255) (k : List Byte) (h : k <+: messageHead m) :
    huntMessages k = ([], k) := by
  rw [messageHead_eq] at h
  rcases k with _ | ⟨b, rest⟩
  · rfl
  · obtain ⟨rfl, hrest⟩ := List.cons_prefix_cons.1 h
    refine huntMessages_more rest ?_
    rcases rest with _ | ⟨kind, _ | ⟨seq, _ | ⟨length, tail⟩⟩⟩
    · rfl
    · rfl
    · rfl
    · simp only [List.cons_prefix_cons] at hrest
      obtain ⟨-, -, hl, htail⟩ := hrest
      have hlen : length.toNat = m.body.length := by rw [hl, toNat_ofNat8 _ (by omega)]
      exact if_pos (by rw [hlen]; exact Nat.lt_succ_of_le htail.length_le)

theorem judgeMessage_complete (m : PortMessage) (c : Byte) (hb : m.body.length ≤ 255) :
    judgeMessage (messageHead m ++ [c]) =
      if byteSum (messageCore m ++ [c]) = 0 then .whole (.sound m) (m.body.length + 5) else .drop .badChecksum := by
  have hlen : (BitVec.ofNat 8 m.body.length).toNat = m.body.length := toNat_ofNat8 _ (by omega)
  have hall : (m.body ++ [c]).take (m.body.length + 1) = m.body ++ [c] := List.take_of_length_le (by simp)
  simp only [messageHead_eq, List.cons_append, judgeMessage, hlen, hall, List.length_append, List.length_singleton,
    lt_irrefl, if_false, List.take_left']
  rfl

/-! ### The bytes as they arrive -/

variable (s : State)

theorem portReceive_disabled (i : InstrId) (bytes : List Byte) (h : (s.port i).state = .disabled) :
    portReceive i bytes s = s := by
  induction bytes with
  | nil => rfl
  | cons b rest ih =>
    have hb : portByte i s b = s := if_pos h
    rw [portReceive, List.foldl_cons, hb]
    exact ih

variable {s}

theorem portByte_eq {i : InstrId} (b : Byte) (hd : (s.port i).state ≠ .disabled) : portByte i s b =
    settle (portEvents i (huntMessages ((s.port i).rxBytes ++ [b])).1
      (s.setPort i { s.port i with rxBytes := (huntMessages ((s.port i).rxBytes ++ [b])).2 })) :=
  if_neg hd

/-- Bytes in which no message is complete are held, and do nothing else. -/
theorem portReceive_holds {i : InstrId} (bytes : List Byte) (hd : (s.port i).state ≠ .disabled) (ha : s.agenda = [])
    (hr : (s.port i).rxBytes = []) (hmore : ∀ k, k <+: bytes → huntMessages k = ([], k)) :
    portReceive i bytes s = s.setPort i { s.port i with rxBytes := bytes } := by
  induction bytes using List.reverseRecOn with
  | nil => exact ((congrArg _ (by rw [← hr])).trans (s.setPort_own i)).symm
  | append_singleton bytes b ih =>
    have held := ih fun k hk => hmore k (hk.trans (List.prefix_append _ _))
    rw [portReceive, List.foldl_concat, ← portReceive, held, portByte_eq]
    · simp only [State.setPort_port_same, hmore _ (List.prefix_refl _), State.setPort_setPort, portEvents]
      exact settle_nil _ ha
    · rwa [State.setPort_port_same]

/-- The byte that completes a message brings its event, and nothing of the message is left in the receiver. -/
theorem portReceive_completes {i : InstrId} (bytes : List Byte) (b : Byte) (e : PortEvent)
    (hd : (s.port i).state ≠ .disabled) (ha : s.agenda = []) (hr : (s.port i).rxBytes = [])
    (hmore : ∀ k, k <+: bytes → huntMessages k = ([], k)) (hlast : huntMessages (bytes ++ [b]) = ([e], [])) :
    portReceive i (bytes ++ [b]) s = settle (portEvent i s e) := by
  have held := portReceive_holds bytes hd ha hr hmore
  have hown : s.setPort i { s.port i with rxBytes := [] } = s := by rw [← hr, State.setPort_own]
  rw [portReceive, List.foldl_concat, ← portReceive, held, portByte_eq]
  · simp only [State.setPort_port_same, hlast, State.setPort_setPort, hown, portEvents, ite_self]
  · rwa [State.setPort_port_same]

theorem portReceive_sound {i : InstrId} (m : PortMessage) (hb : m.body.length ≤ 255) (ha : s.agenda = [])
    (hd : (s.port i).state ≠ .disabled) (hr : (s.port i).rxBytes = []) :
    portReceive i (messageBytes m) s = settle (soundMessage i m s) := by
  rw [messageBytes_eq]
  refine portReceive_completes _ _ (.sound m) hd ha hr (huntMessages_prefix m hb) ?_
  have hsum : byteSum (messageCore m ++ [-(byteSum (messageCore m))]) = 0 := by
    rw [byteSum_concat]
    exact BitVec.add_right_neg _
  refine huntMessages_whole _ _ _ ((judgeMessage_complete m _ hb).trans (if_pos hsum)) ?_
  simp [messageCore, u8]

theorem portReceive_badChecksum {i : InstrId} (m : PortMessage) (c : Byte) (hb : m.body.length ≤ 255)
    (ha : s.agenda = []) (hd : (s.port i).state ≠ .disabled) (hr : (s.port i).rxBytes = [])
    (hsum : byteSum (messageCore m ++ [c]) ≠ 0) (hs : 0x5A ∉ messageCore m ++ [c]) :
    portReceive i (messageHead m ++ [c]) s = settle (badChecksum i s) :=
  portReceive_completes _ _ .badChecksum hd ha hr (huntMessages_prefix m hb)
    (huntMessages_drop _ _ ((judgeMessage_complete m c hb).trans (if_neg hsum)) hs)

end Sys2Proof.Machine
end

section
/-! Messages that are no accepted answer, and exchanges that fail (O36; R100, R102, R107, R109, R113, R205). -/

namespace Sys2Proof.Machine

variable (s : State)

/-! ### Accepted answers (R101, R102, R205) -/

theorem answerLength_iff (kind : Byte) (n : Nat) : answerLength kind = some n ↔
    (kind = 0x81 ∧ n = 0) ∨ (kind = 0x82 ∧ n = 1) ∨ (kind = 0x83 ∧ n = 4) ∨ (kind = 0x84 ∧ n = 6) := by
  constructor
  · intro h
    unfold answerLength at h
    split at h
    · exact .inl ⟨BitVec.eq_of_toNat_eq ‹_›, (Option.some.inj h).symm⟩
    · exact .inr (.inl ⟨BitVec.eq_of_toNat_eq ‹_›, (Option.some.inj h).symm⟩)
    · exact .inr (.inr (.inl ⟨BitVec.eq_of_toNat_eq ‹_›, (Option.some.inj h).symm⟩))
    · exact .inr (.inr (.inr ⟨BitVec.eq_of_toNat_eq ‹_›, (Option.some.inj h).symm⟩))
    · cases h
  · rintro (⟨rfl, rfl⟩ | ⟨rfl, rfl⟩ | ⟨rfl, rfl⟩ | ⟨rfl, rfl⟩) <;> rfl

/-- The messages that a CONFIG or an OUTPUT answers to: ACK and NAK. -/
def Awaited.isCommand (a : Awaited) : Prop := a = .config ∨ a = .outputOn ∨ a = .outputOff

theorem expects_ack (a : Awaited) : a.expects 0x81 = true ↔ a.isCommand := by
  cases a <;> simp [Awaited.expects, Awaited.isCommand]

theorem expects_nak (a : Awaited) : a.expects 0x82 = true ↔ a.isCommand := by
  cases a <;> simp [Awaited.expects, Awaited.isCommand]

theorem expects_value (a : Awaited) : a.expects 0x83 = true ↔ a = .read := by
  cases a <;> simp [Awaited.expects]

theorem expects_ident (a : Awaited) : a.expects 0x84 = true ↔ a = .hello := by
  cases a <;> simp [Awaited.expects]

/-- An answer is accepted to the message it is expected for, with the sequence outstanding and the length of its kind. -/
theorem Port.accepts_iff (p : Port) (m : PortMessage) : p.accepts m = true ↔ p.outstanding = some m.seq ∧
    ∃ a, p.awaited = some a ∧
      ((m.kind = 0x81 ∧ m.body.length = 0 ∧ a.isCommand) ∨ (m.kind = 0x82 ∧ m.body.length = 1 ∧ a.isCommand) ∨
        (m.kind = 0x83 ∧ m.body.length = 4 ∧ a = .read) ∨ (m.kind = 0x84 ∧ m.body.length = 6 ∧ a = .hello)) := by
  simp only [Port.accepts, Bool.and_eq_true, beq_iff_eq, Option.any_eq_true, answerLength_iff]
  constructor
  · rintro ⟨⟨hl, ho⟩, a, ha, he⟩
    refine ⟨ho, a, ha, ?_⟩
    rcases hl with ⟨hk, hl⟩ | ⟨hk, hl⟩ | ⟨hk, hl⟩ | ⟨hk, hl⟩ <;> rw [hk] at he
    · exact .inl ⟨hk, hl, (expects_ack a).1 he⟩
    · exact .inr (.inl ⟨hk, hl, (expects_nak a).1 he⟩)
    · exact .inr (.inr (.inl ⟨hk, hl, (expects_value a).1 he⟩))
    · exact .inr (.inr (.inr ⟨hk, hl, (expects_ident a).1 he⟩))
  · rintro ⟨ho, a, ha, ⟨hk, hl, he⟩ | ⟨hk, hl, he⟩ | ⟨hk, hl, he⟩ | ⟨hk, hl, he⟩⟩
    · exact ⟨⟨.inl ⟨hk, hl⟩, ho⟩, a, ha, hk ▸ (expects_ack a).2 he⟩
    · exact ⟨⟨.inr (.inl ⟨hk, hl⟩), ho⟩, a, ha, hk ▸ (expects_nak a).2 he⟩
    · exact ⟨⟨.inr (.inr (.inl ⟨hk, hl⟩)), ho⟩, a, ha, hk ▸ (expects_value a).2 he⟩
    · exact ⟨⟨.inr (.inr (.inr ⟨hk, hl⟩)), ho⟩, a, ha, hk ▸ (expects_ident a).2 he⟩

theorem soundMessage_stale (i : InstrId) (m : PortMessage) (h : ¬ (s.port i).accepts m = true) :
    soundMessage i m s = s.setPort i { s.port i with counters := (s.port i).counters.bump .stale } :=
  if_neg h

/-! ### Users -/

theorem userDone_eq (i : InstrId) (user : Option PortUser) : userDone i user s =
    match user with
    | some (.site n) => finishStep n false none s
    | some (.teardown n) => s.setPort i { s.port i with quietReport := some (n, .acked) }
    | _ => s := by
  rcases user with _ | _ | _ | _ | _ <;> rfl

theorem userFails_eq (i : InstrId) (user : Option PortUser) (err : StepError) (o : QuietOutcome) :
    userFails i user err o s =
      match user with
      | some (.site n) => stepError n err s
      | some (.teardown n) => s.setPort i { s.port i with quietReport := some (n, o) }
      | _ => s := by
  rcases user with _ | _ | _ | _ | _ <;> rfl

/-! ### Failed exchanges -/

theorem isOutput_iff (a : Option Awaited) :
    a.any Awaited.isOutput = true ↔ a = some .outputOn ∨ a = some .outputOff := by
  rcases a with _ | a
  · simp
  · cases a <;> simp [Awaited.isOutput]

/-- What a failed exchange leaves of the source state: an OUTPUT that was awaited leaves it UNKNOWN (R113). -/
def failedSource (r : InstrRecord) (p : Port) : SourceState :=
  if p.awaited = some .outputOn ∨ p.awaited = some .outputOff then if r.sourceCapable then .unknown else .off
  else p.source

theorem outputFailed_eq (i : InstrId) (p : Port) (a : Option Awaited) (ha : p.awaited = a) :
    outputFailed i a (s.setPort i p) = s.setPort i { p with source := failedSource (s.record i) p } := by
  subst ha
  unfold outputFailed failedSource
  by_cases h : p.awaited = some .outputOn ∨ p.awaited = some .outputOff
  · rw [if_pos ((isOutput_iff _).2 h), if_pos h, setSource, State.setPort_port_same, State.setPort_setPort]
    rfl
  · rw [if_neg (mt (isOutput_iff _).1 h), if_neg h]

/-- A port whose exchange has failed: the failure is counted, and CANCEL leaves (R107, R109). -/
def Port.failed (r : InstrRecord) (failures : Nat) (ending : CancelEnd) (p : Port) : Port :=
  { p with
    failures := failures, state := .command, awaited := some .cancel, user := none, outstanding := none
    respTimer := none, sentConfig := none, seq := p.seq + 1, rxBytes := []
    lastSent := messageBytes ⟨0x05, p.seq + 1, []⟩, cancelEnd := ending, source := failedSource r p }

theorem sendCancel_failed (i : InstrId) (p : Port) (failures : Nat) (ending : CancelEnd) (a : Option Awaited)
    (ha : p.awaited = a) :
    sendCancel i ending (outputFailed i a (s.setPort i { p with failures := failures })) =
      s.setPort i (p.failed (s.record i) failures ending) := by
  have failed := outputFailed_eq s i { p with failures := failures } a ha
  simp only [failed, sendCancel, transmit, State.setPort_port_same, State.setPort_setPort]
  rfl

/-! ### Bad checksums -/

/-- The exchange awaits an answer, so that a bad checksum counts against it (R109). -/
def Port.answerDue (p : Port) : Prop :=
  (p.state = .command ∧ p.awaited ≠ none ∧ p.awaited ≠ some .cancel) ∨ p.state = .fetching

theorem Port.countsChecksum_iff (p : Port) : p.countsChecksum = true ↔ p.answerDue := by
  simp only [Port.answerDue, Port.countsChecksum, Bool.or_eq_true, Bool.and_eq_true, beq_iff_eq, Port.awaits_iff]

/-- A port that has counted a bad checksum (R109, R118). -/
def Port.checksumCounted (p : Port) : Port := { p with counters := p.counters.bump .checksum }

theorem countPort_checksum (i : InstrId) : countPort i .checksum s = s.setPort i (s.port i).checksumCounted := rfl

theorem failedEnd_third (user : Option PortUser) (f : PortFailure) :
    failedEnd user 3 f = if user = some .bringUp then .noAnswer else .lost f := by
  simp [failedEnd]

theorem badChecksum_unawaited (i : InstrId) (h : ¬ (s.port i).checksumCounted.answerDue) :
    badChecksum i s = s.setPort i (s.port i).checksumCounted := by
  simp only [badChecksum, countPort_checksum, State.setPort_port_same]
  exact if_neg (mt (Port.countsChecksum_iff _).1 h)

theorem badChecksum_awaited (i : InstrId) (h : (s.port i).checksumCounted.answerDue)
    (hf : (s.port i).checksumCounted.failures + 1 < 3) : badChecksum i s = s.setPort i
      { (s.port i).checksumCounted with failures := (s.port i).checksumCounted.failures + 1 } := by
  have hmin : moreFailures (s.port i).checksumCounted.failures = (s.port i).checksumCounted.failures + 1 :=
    min_eq_left hf.le
  simp only [badChecksum, countPort_checksum, State.setPort_port_same, State.setPort_setPort, hmin]
  rw [if_pos ((Port.countsChecksum_iff _).2 h), if_neg hf.ne]

theorem badChecksum_third (i : InstrId) (h : (s.port i).checksumCounted.answerDue)
    (hf : ¬ (s.port i).checksumCounted.failures + 1 < 3) : badChecksum i s =
      let p := (s.port i).checksumCounted
      userFails i p.user .offline .timedOut (s.setPort i
        (p.failed (s.record i) 3 (if p.user = some .bringUp then .noAnswer else .lost .checksum))) := by
  have hmin : moreFailures (s.port i).checksumCounted.failures = 3 := min_eq_right (not_lt.1 hf)
  simp only [badChecksum, countPort_checksum, State.setPort_port_same, State.setPort_setPort, hmin, failedEnd_third,
    if_true]
  refine (if_pos ((Port.countsChecksum_iff _).2 h)).trans (congrArg (userFails i _ .offline .timedOut) ?_)
  exact sendCancel_failed s i (s.port i).checksumCounted 3 _ _ rfl

theorem settle_setPort (i : InstrId) (p : Port) (h : s.agenda = []) : settle (s.setPort i p) = s.setPort i p :=
  settle_nil _ h

/-- Settles O36: the bytes of one message bring one event, and neither event here is an answer. -/
theorem wrongMessagesAreCounted : Obligations.WrongMessagesAreCounted := by
  refine ⟨⟨fun i m s hb ha hd hr hm => ?_, fun i kind seq body s h => ?_⟩, fun i m c s hb ha hd hr hsum hs => ?_⟩
  · obtain ⟨kind, seq, body⟩ := m
    have refused : ¬ (s.port i).accepts ⟨kind, seq, body⟩ = true := by
      rw [Port.accepts_iff]
      rintro ⟨ho, a, haw, h⟩
      refine hm ⟨ho, ?_⟩
      simpa only [haw, Option.some.injEq, Awaited.isCommand] using h
    have stale : exec (.portUnknownKindMessage i kind seq body) s =
        .next (s.setPort i { s.port i with counters := (s.port i).counters.bump .stale }) := by
      refine congrArg Host.Outcome.next ((portReceive_sound _ hb ha hd hr).trans ?_)
      rw [soundMessage_stale s i _ refused]
      exact settle_nil _ ha
    refine ⟨stale, ?_, ?_, ?_, ?_⟩ <;> rintro rfl <;> exact stale
  · have ignored (bytes : List Byte) : (.next (portReceive i bytes s) : Answer) = .next s :=
      congrArg Host.Outcome.next (portReceive_disabled s i bytes h)
    exact ⟨ignored _, ignored _, ignored _, ignored _, ignored _, ignored _⟩
  · refine congrArg Host.Outcome.next ((portReceive_badChecksum m c hb ha hd hr hsum hs).trans ?_)
    by_cases hdue : (s.port i).checksumCounted.answerDue
    · by_cases hf : (s.port i).checksumCounted.failures + 1 < 3
      · rw [badChecksum_awaited s i hdue hf, settle_setPort s _ _ ha]
        exact ((if_neg (not_not.2 hdue)).trans (if_pos hf)).symm
      · rw [badChecksum_third s i hdue hf]
        exact (congrArg settle (userFails_eq ..)).trans ((if_neg (not_not.2 hdue)).trans (if_neg hf)).symm
    · rw [badChecksum_unawaited s i hdue, settle_setPort s _ _ ha]
      exact (if_pos hdue).symm

end Sys2Proof.Machine
end

section
/-! Accepted answers: ACK, NAK, VALUE and IDENT end their exchange (O37, O38; R105, R106, R107, R111, R113, R117, R119). -/

namespace Sys2Proof.Machine

variable (s : State)

/-! ### The end of the wait -/

/-- A port whose answer has come (R102, R106). -/
def Port.answered (p : Port) : Port :=
  { p with
    state := .idle, awaited := none, user := none, outstanding := none, respTimer := none, failures := 0
    sentConfig := none }

theorem answerAccepted_eq (i : InstrId) : answerAccepted i s = s.setPort i (s.port i).answered := rfl

/-! ### ACK and NAK -/

/-- The last configuration and the source state after an ACK (R106, R113). -/
def Port.acked (r : InstrRecord) (a : Awaited) (p : Port) : Port :=
  { p.answered with
    lastConfig := if a = .config then p.sentConfig else p.lastConfig
    source := if a = .outputOn then (if r.sourceCapable then .on else .off)
              else if a = .outputOff then .off else p.source }

theorem ackEffect_answered (i : InstrId) (a : Awaited) (ha : (s.port i).awaited = some a) (hc : a.isCommand) :
    ackEffect i (s.port i) (answerAccepted i s) = s.setPort i ((s.port i).acked (s.record i) a) := by
  rw [answerAccepted_eq, ackEffect, ha]
  rcases hc with rfl | rfl | rfl
  · simp only [State.setPort_port_same, State.setPort_setPort]
    rfl
  · simp only [setSource, State.setPort_port_same, State.setPort_setPort]
    rfl
  · simp only [setSource, State.setPort_port_same, State.setPort_setPort, ite_self]
    rfl

theorem soundMessage_ack (i : InstrId) (seq : Byte) (a : Awaited) (ho : (s.port i).outstanding = some seq)
    (ha : (s.port i).awaited = some a) (hc : a.isCommand) : soundMessage i ⟨0x81, seq, []⟩ s =
      portFreed i (userDone i (s.port i).user (s.setPort i ((s.port i).acked (s.record i) a))) := by
  have accepted := (Port.accepts_iff (s.port i) ⟨0x81, seq, []⟩).2 ⟨ho, a, ha, .inl ⟨rfl, rfl, hc⟩⟩
  refine (if_pos accepted).trans (congrArg (fun t => portFreed i (userDone i (s.port i).user t)) ?_)
  exact ackEffect_answered s i a ha hc

/-- A port whose command was refused (R106, R113). -/
def Port.nakked (r : InstrRecord) (a : Awaited) (reason : Byte) (p : Port) : Port :=
  { p.answered with
    lastNak := some reason, counters := p.counters.bump .nak
    source := if a = .config then p.source else if r.sourceCapable then .unknown else .off }

theorem outputFailed_nakked (i : InstrId) (a : Awaited) (reason : Byte) (hc : a.isCommand) :
    outputFailed i (some a) (s.setPort i { (s.port i).answered with
        lastNak := some reason, counters := (s.port i).counters.bump .nak }) =
      s.setPort i ((s.port i).nakked (s.record i) a reason) := by
  rcases hc with rfl | rfl | rfl
  · rfl
  · simp only [outputFailed, Option.any_some, Awaited.isOutput, if_true, setSource, State.setPort_port_same,
      State.setPort_setPort]
    rfl
  · simp only [outputFailed, Option.any_some, Awaited.isOutput, if_true, setSource, State.setPort_port_same,
      State.setPort_setPort]
    rfl

theorem soundMessage_nak (i : InstrId) (seq reason : Byte) (a : Awaited) (ho : (s.port i).outstanding = some seq)
    (ha : (s.port i).awaited = some a) (hc : a.isCommand) : soundMessage i ⟨0x82, seq, [reason]⟩ s =
      portFreed i (userFails i (s.port i).user .nak .naked
        (s.setPort i ((s.port i).nakked (s.record i) a reason))) := by
  have accepted := (Port.accepts_iff (s.port i) ⟨0x82, seq, [reason]⟩).2 ⟨ho, a, ha, .inr (.inl ⟨rfl, rfl, hc⟩)⟩
  refine (if_pos accepted).trans (congrArg (fun t => portFreed i (userFails i (s.port i).user .nak .naked t)) ?_)
  rw [← outputFailed_nakked s i a reason hc, ha]
  simp only [answerAccepted_eq, countPort, State.setPort_port_same, State.setPort_setPort]
  rfl

/-- Settles O37: the bytes of the message bring ACK or NAK, and the user hears what its exchange ended with. -/
theorem ackAndNakEndTheExchange : Obligations.AckAndNakEndTheExchange := by
  refine ⟨fun i seq a s hs hd hr ho ha hc => ?_, fun i seq reason a s hs hd hr ho ha hc => ?_⟩
  · refine congrArg Host.Outcome.next ((portReceive_sound _ (by simp) hs hd hr).trans (congrArg settle ?_))
    exact (soundMessage_ack s i seq a ho ha hc).trans (congrArg (portFreed i) (userDone_eq ..))
  · refine congrArg Host.Outcome.next ((portReceive_sound _ (by simp) hs hd hr).trans (congrArg settle ?_))
    exact (soundMessage_nak s i seq reason a ho ha hc).trans (congrArg (portFreed i) (userFails_eq ..))

/-! ### VALUE and IDENT -/

theorem signed24_read24 (c0 c1 c2 : Byte) : signed24 (read24 c0 c1 c2) = (c2 ++ c1 ++ c0 : BitVec 24).toInt :=
  congrArg BitVec.toInt (ofNat_read24 c0 c1 c2)

theorem ofNat_read32 (b0 b1 b2 b3 : Byte) : BitVec.ofNat 32 (read32 b0 b1 b2 b3) = b3 ++ b2 ++ b1 ++ b0 := by
  have low := congrArg BitVec.toNat (ofNat_read24 b0 b1 b2)
  apply BitVec.eq_of_toNat_eq
  have h0 := b0.isLt
  have h1 := b1.isLt
  have h2 := b2.isLt
  simp only [read32, BitVec.toNat_ofNat, BitVec.toNat_append]
  rw [← Nat.shiftLeft_add_eq_or_of_lt h2, ← Nat.shiftLeft_add_eq_or_of_lt h1, ← Nat.shiftLeft_add_eq_or_of_lt h0]
  simp only [Nat.shiftLeft_eq]
  omega

theorem soundMessage_value (i : InstrId) (seq c0 c1 c2 status : Byte) (n : SiteId)
    (ho : (s.port i).outstanding = some seq) (ha : (s.port i).awaited = some .read)
    (hu : (s.port i).user = some (.site n)) : soundMessage i ⟨0x83, seq, [c0, c1, c2, status]⟩ s =
      takeSample n i (c2 ++ c1 ++ c0 : BitVec 24).toInt (status.getLsbD 0) (status.getLsbD 1) (s.port i).triggerStamp
        ((s.port i).readyStamp - (s.port i).triggerStamp) (s.setPort i (s.port i).answered) := by
  have accepted := (Port.accepts_iff (s.port i) ⟨0x83, seq, [c0, c1, c2, status]⟩).2
    ⟨ho, .read, ha, .inr (.inr (.inl ⟨rfl, rfl, rfl⟩))⟩
  refine (if_pos accepted).trans ?_
  show valueAccepted i (signed24 (read24 c0 c1 c2)) status s = _
  simp only [valueAccepted, hu, signed24_read24, answerAccepted_eq]

theorem soundMessage_ident (i : InstrId) (seq type revision s0 s1 s2 s3 : Byte)
    (ho : (s.port i).outstanding = some seq) (ha : (s.port i).awaited = some .hello) :
    soundMessage i ⟨0x84, seq, [type, revision, s0, s1, s2, s3]⟩ s =
      let t := portNotice i (if (s.port i).state = .offline then .found else .enabled) (s.setPort i
        { (s.port i).answered with probeTimer := none, lastIdent := some ⟨type, revision, s3 ++ s2 ++ s1 ++ s0⟩ })
      if (s.port i).state = .command then portFreed i t else t := by
  have accepted := (Port.accepts_iff (s.port i) ⟨0x84, seq, [type, revision, s0, s1, s2, s3]⟩).2
    ⟨ho, .hello, ha, .inr (.inr (.inr ⟨rfl, rfl, rfl⟩))⟩
  refine (if_pos accepted).trans ?_
  show identAccepted i ⟨type, revision, BitVec.ofNat 32 (read32 s0 s1 s2 s3)⟩ s = _
  simp only [identAccepted, ofNat_read32, answerAccepted_eq, State.setPort_port_same, State.setPort_setPort]

/-- Settles O38: VALUE hands its sample over, IDENT its identity. -/
theorem valueAndIdentAreTaken : Obligations.ValueAndIdentAreTaken := by
  refine ⟨fun i seq c0 c1 c2 status n s hs hd hr ho ha hu => ?_,
    fun i seq type revision s0 s1 s2 s3 s hs hp hr ho ha => ?_⟩
  · refine congrArg Host.Outcome.next ((portReceive_sound _ (by simp) hs hd hr).trans (congrArg settle ?_))
    exact soundMessage_value s i seq c0 c1 c2 status n ho ha hu
  · have hd : (s.port i).state ≠ .disabled := by rcases hp with hp | hp <;> simp [hp]
    refine congrArg Host.Outcome.next ((portReceive_sound _ (by simp) hs hd hr).trans (congrArg settle ?_))
    exact soundMessage_ident s i seq type revision s0 s1 s2 s3 ho ha

end Sys2Proof.Machine
end

section
/-! Response timeouts, the end of a CANCEL, and the probes of an OFFLINE port (O39; R105, R107, R113). -/

namespace Sys2Proof.Machine

variable (s : State)

/-! ### The response timer -/

theorem responseTimeout_engaged (i : InstrId) (r : Timer) (hr : (s.port i).respTimer = some r)
    (he : (s.port i).engaged = true) :
    exec (.responseTimeout i) s = .next (whenRun r (fun s => settle (exchangeTimedOut i s)) s) := by
  show execResponseTimeout i s = _
  simp only [execResponseTimeout, hr, he, if_true]

theorem responseTimeout_none (i : InstrId) (h : (s.port i).respTimer = none ∨ ¬ (s.port i).engaged = true) :
    exec (.responseTimeout i) s = .next s := by
  show execResponseTimeout i s = _
  unfold execResponseTimeout
  split
  · rename_i hr
    exact if_neg (h.resolve_left (by simp [hr]))
  · rfl

theorem responseTimeout_behind (i : InstrId) (r : Timer) (hr : (s.port i).respTimer = some r)
    (h : s.reaches r = false) : exec (.responseTimeout i) s = .next s := by
  by_cases he : (s.port i).engaged = true
  · rw [responseTimeout_engaged s i r hr he, whenRun_behind s r _ h]
  · exact responseTimeout_none s i (.inr he)

theorem not_engaged (p : Port) (h : p.state = .disabled ∨ p.state = .offline ∨ p.state = .idle ∨
    p.awaited = some .cancel ∧ p.state = .command) : ¬ p.engaged = true := by
  rw [Port.engaged_iff]
  rcases h with h | h | h | ⟨ha, h⟩ <;> simp [h]
  exact fun _ => ha

/-- Where the CANCEL of a failed exchange leads (R105, R107), for a failure count inside its bound. -/
theorem failedEnd_eq (user : Option PortUser) (k : Nat) (f : PortFailure) : failedEnd user (min k 3) f =
    if user = some .bringUp then .noAnswer else if min k 3 = 3 then .lost f else .idle := by
  have hk : 3 ≤ min k 3 ↔ min k 3 = 3 := ⟨fun h => le_antisymm (min_le_right k 3) h, ge_of_eq⟩
  simp only [failedEnd, hk]

theorem exchangeTimedOut_eq (i : InstrId) : exchangeTimedOut i s =
    let p := s.port i
    let failures := min (p.failures + 1) 3
    userFails i p.user .timeout .timedOut (s.setPort i
      (Port.failed (s.record i) failures
        (if p.user = some .bringUp then .noAnswer else if failures = 3 then .lost .timeout else .idle)
        { p with counters := p.counters.bump .timeout })) := by
  simp only [exchangeTimedOut, countPort, moreFailures, failedEnd_eq, State.setPort_port_same, State.setPort_setPort]
  refine congrArg (userFails i _ .timeout .timedOut) ?_
  exact sendCancel_failed s i { s.port i with counters := (s.port i).counters.bump .timeout } _ _ _ rfl

/-! ### The end of a CANCEL -/

theorem cancelSent_awaited (i : InstrId) (hs : (s.port i).state = .command) (ha : (s.port i).awaited = some .cancel) :
    exec (.cancelSent i) s = .next (settle (cancelEnded i s)) := if_pos ⟨hs, ha⟩

theorem cancelSent_other (i : InstrId) (h : (s.port i).state ≠ .command ∨ (s.port i).awaited ≠ some .cancel) :
    exec (.cancelSent i) s = .next s := if_neg fun ⟨hs, ha⟩ => h.elim (absurd hs) (absurd ha)

/-- A port as it goes OFFLINE (R105, R107). -/
def Port.wentOffline (now : Time) (counters : PortCounters) (p : Port) : Port :=
  { p with
    state := .offline, awaited := none, user := none, outstanding := none, probeTimer := some ⟨now, 1000000⟩
    counters := counters }

theorem goOffline_lost (i : InstrId) (f : PortFailure) : goOffline i (.lost f) (countPort i .lostLink s) =
    portNotice i (.lost f)
      (s.setPort i ((s.port i).wentOffline s.time ((s.port i).counters.bump .lostLink))) := by
  simp only [goOffline, countPort, State.setPort_port_same, State.setPort_setPort]
  rfl

theorem cancelEnded_eq (i : InstrId) : cancelEnded i s = portFreed i
    (match (s.port i).cancelEnd with
     | .idle => s.setPort i { s.port i with state := .idle, awaited := none }
     | .lost f => portNotice i (.lost f)
        (s.setPort i ((s.port i).wentOffline s.time ((s.port i).counters.bump .lostLink)))
     | .noAnswer => portNotice i .noAnswer (s.setPort i ((s.port i).wentOffline s.time (s.port i).counters))) := by
  simp only [cancelEnded, goOffline_lost]
  rfl

/-! ### Probes -/

theorem sendProbe_eq (i : InstrId) : sendProbe i s = s.setPort i { s.port i with
    seq := (s.port i).seq + 1, outstanding := some ((s.port i).seq + 1), awaited := some .hello, rxBytes := []
    probeTimer := some ⟨s.time, 1000000⟩, lastSent := messageBytes ⟨0x01, (s.port i).seq + 1, []⟩ } := by
  simp only [sendProbe, transmit, State.setPort_port_same, State.setPort_setPort]
  rfl

theorem probeTimerExpiry_offline (i : InstrId) (t : Timer) (hs : (s.port i).state = .offline)
    (ht : (s.port i).probeTimer = some t) : exec (.probeTimerExpiry i) s = .next (whenRun t (sendProbe i) s) := by
  show execProbeTimerExpiry i s = _
  simp only [execProbeTimerExpiry, hs, ht]

theorem probeTimerExpiry_none (i : InstrId) (h : (s.port i).state ≠ .offline ∨ (s.port i).probeTimer = none) :
    exec (.probeTimerExpiry i) s = .next s := by
  show execProbeTimerExpiry i s = _
  unfold execProbeTimerExpiry
  split
  · simp_all
  · rfl

theorem probeTimerExpiry_behind (i : InstrId) (t : Timer) (ht : (s.port i).probeTimer = some t)
    (h : s.reaches t = false) : exec (.probeTimerExpiry i) s = .next s := by
  by_cases hs : (s.port i).state = .offline
  · rw [probeTimerExpiry_offline s i t hs ht, whenRun_behind s t _ h]
  · exact probeTimerExpiry_none s i (.inl hs)

/-- Settles O39: the response timer, the end of a CANCEL and the probe timer, each reached, not reached and not running. -/
theorem exchangesFailCancelAndProbe : Obligations.ExchangesFailCancelAndProbe := by
  refine ⟨⟨fun i r s => responseTimeout_behind s i r, fun i r s => probeTimerExpiry_behind s i r,
    fun i r s hr h he => ?_, fun i s h => responseTimeout_none s i (h.imp_right (not_engaged _))⟩,
    fun i s hs ha => ?_, fun i t s hs ht h => ?_, fun i s => cancelSent_other s i, fun i s => probeTimerExpiry_none s i⟩
  · rw [responseTimeout_engaged s i r hr ((Port.engaged_iff _).2 he), whenRun_reached s r _ h, exchangeTimedOut_eq,
      passTo_port, passTo_record]
    exact congrArg (fun t => Host.Outcome.next (settle t)) (userFails_eq ..)
  · rw [cancelSent_awaited s i hs ha, cancelEnded_eq]
    rfl
  · rw [probeTimerExpiry_offline s i t hs ht, whenRun_reached s t _ h, sendProbe_eq, passTo_port]

end Sys2Proof.Machine
end

section
/-! A sample that its site asked for: the next trigger, or the result and its post (O47; R112, R128, R133, R136, R137,
R142). -/

namespace Sys2Proof.Machine

variable (s : State)

/-! ### The sample in its context -/

theorem takeSample_elsewhere (n : SiteId) (i : InstrId) (code : Int) (flagged sign : Bool) (trigger conversion : Time)
    (r : StepRecord) (x : Sampling) (ht : (s.site n).taking = some r) (hx : r.sampling = some x)
    (hp : (s.site n).meas.phase ≠ .sampling) : takeSample n i code flagged sign trigger conversion s = s := by
  simp only [takeSample, ht, hx, if_neg hp]

theorem takeSample_sampling (n : SiteId) (i : InstrId) (code : Int) (flagged sign : Bool) (trigger conversion : Time)
    (r : StepRecord) (x : Sampling) (ht : (s.site n).taking = some r) (hx : r.sampling = some x)
    (hp : (s.site n).meas.phase = .sampling) : takeSample n i code flagged sign trigger conversion s =
      let m := addSample (s.site n).meas (s.calEntry i x.range) x.requireZero code flagged sign trigger conversion
      let t := s.setSite n { s.site n with meas := m }
      if m.taken < x.samples ∧ !m.stopped then nextTrigger n i x.spacing t else endSampling n r t := by
  simp only [takeSample, ht, hx, hp, if_true]

/-- Another sample is asked for: the measurement is short of its samples and has not stopped (R128). -/
theorem goesOn_iff (m : Measure) (samples : Nat) :
    (m.taken < samples ∧ (!m.stopped) = true) ↔ m.taken < samples ∧ m.overrange = none ∧ m.noZero = false := by
  simp [Measure.stopped]

/-! ### The next trigger -/

theorem nextTrigger_eq (n : SiteId) (i : InstrId) (spacing : BitVec 16) : nextTrigger n i spacing s =
    if spacing.toNat ≤ (s.time - (s.port i).triggerStamp).toNat then giveTrigger n i s
    else s.setPort i
      { s.port i with spacing := some (n, ⟨(s.port i).triggerStamp, spacing.toNat⟩) } :=
  if_congr decide_eq_true_iff rfl rfl

/-! ### The result -/

theorem formResult_measure (c : Site) (r : StepRecord) (f : MeasureFields) (hk : r.kind = .measure f) :
    formResult s c r =
      let v := measuredValue f.mode c.meas
      let b := judgeValue c.vars (f.limit.bind fun l => s.limits.get l.toNat) c.meas.noZero v
      { value := v, bin := b.1, ovr := c.meas.overrange.isSome, uncal := c.meas.uncal, noZero := c.meas.noZero
        noRef := b.2, manual := decide (c.state = .manual) } := by
  simp only [formResult, hk, measureResult]

theorem zeroAccepted_iff (m : Measure) (v : Int) :
    zeroAccepted m v = true ↔ m.overrange = none ∧ v.natAbs ≤ 67108848 := by
  simp [zeroAccepted]

theorem formResult_zero (c : Site) (r : StepRecord) (f : ZeroFields) (hk : r.kind = .zero f) :
    formResult s c r =
      let v := measuredValue .mean c.meas
      { value := v, bin := if c.meas.overrange = none ∧ v.natAbs ≤ 67108848 then .noJudge else .invalid
        ovr := c.meas.overrange.isSome, uncal := c.meas.uncal, noZero := false, noRef := false
        manual := decide (c.state = .manual) } := by
  simp only [formResult, hk, zeroResult, zeroAccepted_iff]

/-- A step that samples is a MEASURE or a ZERO. -/
theorem sampling_kind (r : StepRecord) (x : Sampling) (h : r.sampling = some x) :
    (∃ f, r.kind = .measure f) ∨ ∃ f, r.kind = .zero f := by
  unfold StepRecord.sampling at h
  split at h
  · exact .inl ⟨_, ‹_›⟩
  · exact .inr ⟨_, ‹_›⟩
  · cases h

theorem wantsRecord_measure (r : StepRecord) (f : MeasureFields) (hk : r.kind = .measure f) :
    r.wantsRecord = f.record := by
  simp only [StepRecord.wantsRecord, hk]

theorem wantsRecord_zero (r : StepRecord) (f : ZeroFields) (hk : r.kind = .zero f) : r.wantsRecord = true := by
  simp only [StepRecord.wantsRecord, hk]

/-- Settles O47: the sample in its context, then the next trigger, or the result by the kind of the step. -/
theorem sampleIsTaken : Obligations.SampleIsTaken := by
  intro n i code flagged sign trigger conversion r x s ht hx
  refine ⟨takeSample_elsewhere s n i code flagged sign trigger conversion r x ht hx, fun hp => ?_⟩
  intro m t hi
  subst hi
  have sampled := takeSample_sampling s n x.inst code flagged sign trigger conversion r x ht hx hp
  refine ⟨fun hm ho hz => ?_, fun hend => ?_⟩
  · exact sampled.trans ((if_pos ((goesOn_iff m _).2 ⟨hm, ho, hz⟩)).trans (nextTrigger_eq ..))
  · have ended : ¬ (m.taken < x.samples ∧ (!m.stopped) = true) := by
      rw [goesOn_iff]
      rintro ⟨hm, ho, hz⟩
      rcases hend with h | h | h
      · exact absurd hm (not_lt.2 h)
      · exact h ho
      · simp [hz] at h
    have hc : t.site n = { s.site n with meas := m } := State.setSite_site_same ..
    have hl : t.limits = s.limits := rfl
    refine sampled.trans ((if_neg ended).trans ?_)
    show endSampling n r t = _
    rcases sampling_kind r x hx with ⟨f, hk⟩ | ⟨f, hk⟩
    · simp only [endSampling, wantsRecord_measure r f hk, formResult_measure _ _ r f hk, hk, hc, hl]
    · simp only [endSampling, wantsRecord_zero r f hk, formResult_zero _ _ r f hk, hk, hc, if_true]

end Sys2Proof.Machine
end

section
/-! One sample, its stages and the sums of 256 of them (O42, O43; R129, R130, R131, R132). -/

namespace Sys2Proof.Machine

/-! ### The division (R130) -/

theorem roundDiv_natAbs (a : Int) (b : Nat) : (roundDiv a b).natAbs = (2 * a.natAbs + b) / (2 * b) := by
  unfold roundDiv
  split
  · rw [Int.natAbs_neg, Int.natAbs_natCast]
  · rw [Int.natAbs_natCast]

theorem roundDiv_mul (a : Int) (b : Nat) : roundDiv a b * b =
    if a < 0 then -(((2 * a.natAbs + b) / (2 * b) * b : Nat) : Int) else ((2 * a.natAbs + b) / (2 * b) * b : Nat) := by
  unfold roundDiv
  split <;> simp

/-- The multiple of `b` that is selected lies at most half of `b` above `n`, and less than half of it below. -/
theorem half_up_bounds (n b : Nat) (hb : 0 < b) :
    2 * ((2 * n + b) / (2 * b) * b) ≤ 2 * n + b ∧ 2 * n < 2 * ((2 * n + b) / (2 * b) * b) + b := by
  have low := Nat.div_mul_le_self (2 * n + b) (2 * b)
  have high := Nat.lt_div_mul_add (a := 2 * n + b) (b := 2 * b) (by omega)
  rw [Nat.mul_left_comm] at low high
  omega

theorem roundDiv_nearest (a : Int) (b : Nat) (hb : 0 < b) : 2 * (a - roundDiv a b * b).natAbs ≤ b := by
  have bounds := half_up_bounds a.natAbs b hb
  rw [roundDiv_mul]
  split <;> omega

theorem roundDiv_tie_away (a : Int) (b : Nat) (hb : 0 < b) (h : 2 * (a - roundDiv a b * b).natAbs = b) :
    a.natAbs < (roundDiv a b).natAbs * b := by
  have bounds := half_up_bounds a.natAbs b hb
  rw [roundDiv_mul] at h
  rw [roundDiv_natAbs]
  split at h <;> omega

theorem roundDiv_natAbs_le (a : Int) (b c : Nat) (h : a.natAbs ≤ c) :
    (roundDiv a b).natAbs ≤ (2 * c + b) / (2 * b) := by
  rw [roundDiv_natAbs]
  exact Nat.div_le_div_right (by omega)

/-! ### Calibration (R130) -/

theorem CalEntry.used_eq (e : CalEntry) :
    e.used = (if e.valid then e.offset else 0, if e.valid then e.gain else 4194304) := by
  unfold CalEntry.used
  split <;> rfl

theorem CalEntry.used_bounds (e : CalEntry) (hlow : -8388608 ≤ e.offset) (hhigh : e.offset ≤ 8388607)
    (hgain : e.gain ≤ 16777215) : -8388608 ≤ e.used.1 ∧ e.used.1 ≤ 8388607 ∧ e.used.2 ≤ 16777215 := by
  unfold CalEntry.used
  split <;> simp [*]

theorem calibrate_natAbs_le (e : CalEntry) (r : Int) (hlow : -8388608 ≤ e.offset) (hhigh : e.offset ≤ 8388607)
    (hgain : e.gain ≤ 16777215) (hr : -8388607 ≤ r ∧ r ≤ 8388606) : (calibrate e r).natAbs ≤ 67108852 := by
  obtain ⟨olow, ohigh, gain⟩ := e.used_bounds hlow hhigh hgain
  have difference : (r - e.used.1).natAbs ≤ 16777214 := by omega
  have product : ((r - e.used.1) * (e.used.2 : Int)).natAbs ≤ 16777214 * 16777215 := by
    rw [Int.natAbs_mul, Int.natAbs_natCast]
    exact Nat.mul_le_mul difference gain
  exact (roundDiv_natAbs_le _ 4194304 _ product).trans (by decide)

/-! ### One sample (R129, R131) -/

theorem overrangeOf_over (r : Int) (flagged sign : Bool) (h : r = 8388607 ∨ r = -8388608 ∨ flagged = true) :
    overrangeOf r flagged sign = some (if r = 0 then sign else decide (r < 0)) := if_pos h

theorem overrangeOf_none (r : Int) (flagged sign : Bool) (h : ¬ (r = 8388607 ∨ r = -8388608 ∨ flagged = true)) :
    overrangeOf r flagged sign = none := if_neg h

theorem countSample_eq (m : Measure) (e : CalEntry) (trigger conversion : Time) : countSample m e trigger conversion =
    { m with
      taken := m.taken + 1, firstTrigger := if m.taken = 0 then trigger else m.firstTrigger, lastConversion := conversion
      unitCode := e.unitCode, uncal := if e.valid then m.uncal else true } := by
  unfold countSample
  cases e.valid <;> simp

theorem addSample_overrange (m : Measure) (e : CalEntry) (requireZero : Bool) (r : Int) (flagged sign : Bool)
    (trigger conversion : Time) (h : r = 8388607 ∨ r = -8388608 ∨ flagged = true) :
    addSample m e requireZero r flagged sign trigger conversion =
      { countSample m e trigger conversion with overrange := some (if r = 0 then sign else decide (r < 0)) } := by
  simp only [addSample, overrangeOf_over r flagged sign h]

/-- A code in range is calibrated and taken against the route zero, if there is one (R130, R131). -/
theorem addSample_zeroed (m : Measure) (e : CalEntry) (requireZero : Bool) (r : Int) (flagged sign : Bool)
    (trigger conversion : Time) (h : ¬ (r = 8388607 ∨ r = -8388608 ∨ flagged = true)) (z : Int) (hz : m.zero = some z) :
    addSample m e requireZero r flagged sign trigger conversion =
      accumulate (countSample m e trigger conversion) (calibrate e r - z) := by
  have kept : (countSample m e trigger conversion).zero = some z := hz
  simp only [addSample, overrangeOf_none r flagged sign h, kept]

theorem addSample_unzeroed (m : Measure) (e : CalEntry) (requireZero : Bool) (r : Int) (flagged sign : Bool)
    (trigger conversion : Time) (h : ¬ (r = 8388607 ∨ r = -8388608 ∨ flagged = true)) (hz : m.zero = none) :
    addSample m e requireZero r flagged sign trigger conversion =
      if requireZero then { countSample m e trigger conversion with noZero := true }
      else accumulate (countSample m e trigger conversion) (calibrate e r) := by
  have kept : (countSample m e trigger conversion).zero = none := hz
  simp only [addSample, overrangeOf_none r flagged sign h, kept]

/-- Settles O42: the rounding and its tie, the bound of a calibrated code, and the stages of one sample. -/
theorem samplesAreComputed : Obligations.SamplesAreComputed := by
  refine ⟨⟨fun a b hb => ⟨roundDiv_nearest a b hb, roundDiv_tie_away a b hb⟩, fun e r hlow hhigh hgain h1 h2 => ?_⟩,
    fun m e requireZero r flagged sign trigger conversion => ?_⟩
  · have bound := calibrate_natAbs_le e r hlow hhigh hgain ⟨h1, h2⟩
    refine ⟨?_, by omega, by omega⟩
    simp only [calibrate, e.used_eq]
  · rw [← countSample_eq]
    intro base
    by_cases h : r = 8388607 ∨ r = -8388608 ∨ flagged = true
    · rw [if_pos h]
      exact addSample_overrange m e requireZero r flagged sign trigger conversion h
    · rw [if_neg h]
      cases hz : m.zero with
      | some z => exact addSample_zeroed m e requireZero r flagged sign trigger conversion h z hz
      | none => exact addSample_unzeroed m e requireZero r flagged sign trigger conversion h hz

/-! ### The sum and the extremes (R132) -/

@[simp] theorem accumulate_sum (m : Measure) (v : Int) : (accumulate m v).sum = m.sum + v := rfl

theorem accumulate_minimum_some (m : Measure) (v x : Int) (h : m.minimum = some x) :
    (accumulate m v).minimum = some (if v < x then v else x) := by
  simp only [accumulate, h]

theorem accumulate_maximum_some (m : Measure) (v x : Int) (h : m.maximum = some x) :
    (accumulate m v).maximum = some (if x < v then v else x) := by
  simp only [accumulate, h]

theorem accumulate_minimum_moves (m : Measure) (v : Int) (h : m.minimum = none ∨ ∃ x, m.minimum = some x ∧ v < x) :
    (accumulate m v).minimum = some v := by
  rcases h with h | ⟨x, hx, hv⟩
  · simp only [accumulate, h]
  · rw [accumulate_minimum_some m v x hx, if_pos hv]

theorem accumulate_maximum_moves (m : Measure) (v : Int) (h : m.maximum = none ∨ ∃ x, m.maximum = some x ∧ x < v) :
    (accumulate m v).maximum = some v := by
  rcases h with h | ⟨x, hx, hv⟩
  · simp only [accumulate, h]
  · rw [accumulate_maximum_some m v x hx, if_pos hv]

/-- Each value moves the sum by no more than its own bound. -/
theorem foldl_accumulate_sum_le (vs : List Int) (m : Measure) (bound : Nat) (h : ∀ v ∈ vs, v.natAbs ≤ bound) :
    (vs.foldl accumulate m).sum.natAbs ≤ m.sum.natAbs + vs.length * bound := by
  induction vs generalizing m with
  | nil => simp
  | cons v vs ih =>
    have rest := ih (accumulate m v) fun w hw => h w (List.mem_cons_of_mem v hw)
    have first := h v List.mem_cons_self
    have moved := Int.natAbs_add_le m.sum v
    rw [accumulate_sum] at rest
    rw [List.foldl_cons, List.length_cons, Nat.add_one_mul]
    omega

/-- Settles O43: the sum, the extremes, and the sum of up to 256 values by induction on them. -/
theorem sampleIsAccumulated : Obligations.SampleIsAccumulated := by
  refine ⟨fun m v => ⟨rfl, accumulate_minimum_moves m v, fun x hx hv => ?_, accumulate_maximum_moves m v,
    fun x hx hv => ?_, rfl⟩, fun vs hlen hvs => ?_⟩
  · rw [accumulate_minimum_some m v x hx, if_neg (not_lt.2 hv)]
  · rw [accumulate_maximum_some m v x hx, if_neg (not_lt.2 hv)]
  · have sum := foldl_accumulate_sum_le vs .empty 134217700 fun v hv => by
      have := hvs v hv
      omega
    have start : Measure.empty.sum.natAbs = 0 := rfl
    omega

end Sys2Proof.Machine
end

section
/-! The reduction of the samples, the limits of a set and the bin (O44, O45; R133, R134, R135). -/

namespace Sys2Proof.Machine

/-! ### The measured value (R133) -/

theorem measuredValue_overrange (mode : ReduceMode) (m : Measure) (negative : Bool) (h : m.overrange = some negative) :
    measuredValue mode m = if negative then -134217727 else 134217727 := by
  simp only [measuredValue, h]

theorem measuredValue_noZero (mode : ReduceMode) (m : Measure) (ho : m.overrange = none) (hz : m.noZero = true) :
    measuredValue mode m = 0 := by
  simp only [measuredValue, ho, hz, if_true]

theorem measuredValue_reduces (mode : ReduceMode) (m : Measure) (ho : m.overrange = none) (hz : m.noZero = false) :
    measuredValue mode m = reduce mode m := by
  simp only [measuredValue, ho, hz, Bool.false_eq_true, if_false]

/-! ### The limits (R134) -/

theorem judgeValue_noZero (vars : Vector Variable 8) (limit : Option LimitSet) (v : Int) :
    judgeValue vars limit true v = (.invalid, false) := rfl

theorem judgeValue_unformed (vars : Vector Variable 8) (set : LimitSet) (v : Int) (h : limitsOf vars set = none) :
    judgeValue vars (some set) false v = (.invalid, true) := by
  simp only [judgeValue, h, Bool.false_eq_true, if_false]

theorem judgeValue_formed (vars : Vector Variable 8) (set : LimitSet) (v lo hi : Int) (guard : Nat)
    (h : limitsOf vars set = some (lo, hi, guard)) :
    judgeValue vars (some set) false v = (binOf lo hi guard v, false) := by
  simp only [judgeValue, h, Bool.false_eq_true, if_false]

theorem limitsOf_rel_invalid (vars : Vector Variable 8) (x : Fin 8) (below above g : Nat) (y : AbsFields)
    (h : vars[x].valid = false) : limitsOf vars (.rel x below above g y) = none := by
  simp only [limitsOf, h, Bool.false_eq_true, if_false]

theorem limitsOf_rel_valid (vars : Vector Variable 8) (x : Fin 8) (below above g : Nat) (y : AbsFields)
    (h : vars[x].valid = true) : limitsOf vars (.rel x below above g y) =
      some (vars[x].value - roundDiv ((vars[x].value.natAbs * below : Nat) : Int) 10000,
        vars[x].value + roundDiv ((vars[x].value.natAbs * above : Nat) : Int) 10000, g) := by
  simp only [limitsOf, h, if_true, Nat.cast_mul]

/-- Settles O44: the measured value by what the context holds, and the limits by the kind of the set. -/
theorem samplesAreReducedAndLimitsFormed : Obligations.SamplesAreReducedAndLimitsFormed := by
  refine ⟨⟨fun mode m h => measuredValue_overrange mode m false h, fun mode m h => measuredValue_overrange mode m true h,
    measuredValue_noZero, fun v vs m ho hz ht hs hmin hmax => ?_⟩,
    fun vars v => ⟨rfl, fun limit => judgeValue_noZero vars limit v, fun low high g y => rfl,
      fun x below above g y hx => ?_, fun x below above g y hx => ?_⟩⟩
  · have reduced (mode : ReduceMode) := measuredValue_reduces mode m ho hz
    rw [← hmin, ← hmax]
    refine ⟨?_, ?_, ?_, fun lo hi hlo hhi => ?_⟩
    · rw [reduced, reduce, hs, ht]
    · rw [reduced, reduce, Option.getD_of_ne_none (by simp [hmin])]
    · rw [reduced, reduce, Option.getD_of_ne_none (by simp [hmax])]
    · rw [reduced, reduce, hlo, hhi, Option.getD_some, Option.getD_some]
  · exact judgeValue_unformed vars _ v (limitsOf_rel_invalid vars x below above g y hx)
  · exact judgeValue_formed vars _ v _ _ g (limitsOf_rel_valid vars x below above g y hx)

/-! ### The bin (R135) -/

/-- PASS is what fails none of the four tests. -/
theorem binOf_pass_iff (lo hi v : Int) (g : Nat) :
    binOf lo hi g v = .pass ↔ lo ≤ v ∧ v ≤ hi ∧ lo + g ≤ v ∧ v ≤ hi - g := by
  unfold binOf
  split_ifs <;> simp <;> omega

/-- Settles O45: the four tests in their order; margins that meet leave no value for PASS. -/
theorem valueIsPlacedInABin : Obligations.ValueIsPlacedInABin := by
  intro lo hi v g
  refine ⟨fun h => if_pos h, fun hl h => ?_, fun hl hh h => ?_,
    fun hl hh h1 h2 => (binOf_pass_iff lo hi v g).2 ⟨hl, hh, h1, h2⟩, fun hmeet hpass => ?_⟩
  · rw [binOf, if_neg (not_lt.2 hl), if_pos h]
  · rw [binOf, if_neg (not_lt.2 hl), if_neg (not_lt.2 hh), if_pos h]
  · obtain ⟨-, -, h1, h2⟩ := (binOf_pass_iff lo hi v g).1 hpass
    exact absurd hmeet (not_lt.2 (h1.trans h2))

end Sys2Proof.Machine
end

section
/-! CAL_SET and CAL_READ (O25; R121, R122). -/

namespace Sys2Proof.Machine

/-! ### A calibration entry in a body -/

theorem readCalEntry_some (o0 o1 o2 g0 g1 g2 unit valid : Byte) (hg : read24 g0 g1 g2 ≠ 0) (hv : valid.toNat ≤ 1) :
    readCalEntry [o0, o1, o2, g0, g1, g2, unit, valid] =
      some (if valid = 1 then ⟨(o2 ++ o1 ++ o0 : BitVec 24).toInt, read24 g0 g1 g2, unit, true⟩
        else ⟨0, 4194304, unit, false⟩) := by
  simp only [readCalEntry, readFlag_some valid hv, Option.bind_eq_bind, Option.bind_some, if_neg hg, signed24_read24,
    decide_eq_true_eq]
  split <;> rfl

theorem readCalEntry_none (o0 o1 o2 g0 g1 g2 unit valid : Byte) (h : read24 g0 g1 g2 = 0 ∨ 1 < valid.toNat) :
    readCalEntry [o0, o1, o2, g0, g1, g2, unit, valid] = none := by
  by_cases hv : 1 < valid.toNat
  · simp only [readCalEntry, readFlag_none valid hv, Option.bind_eq_bind, Option.bind_none]
  · simp only [readCalEntry, readFlag_some valid (not_lt.1 hv), Option.bind_eq_bind, Option.bind_some,
      if_pos (h.resolve_right hv)]

/-! ### The requests -/

theorem calSet_answers (tag : Byte) (fields : List Byte) (i : InstrId) (r : Fin 8) (e : CalEntry)
    (hl : fields.length = 8) (he : readCalEntry fields = some e) :
    Answers (.calSet tag (BitVec.ofNat 8 i :: BitVec.ofNat 8 r :: fields))
      ⟨0x0C, tag, BitVec.ofNat 8 i :: BitVec.ofNat 8 r :: fields⟩ (fun _ => True) fun s =>
      send ⟨0x4C, tag, [0x00]⟩ (setCal i r e s) := by
  refine Answers.of id _ (fun _ => rfl) fun s _ => ?_
  simp only [List.length_cons, hl, readInst_ofNat, readIndex8_ofNat, he]
  rfl

theorem calSet_refuses (tag inst range : Byte) (fields : List Byte) (hl : fields.length = 8)
    (h : readInst inst = none ∨ readIndex8 range = none ∨ readCalEntry fields = none) :
    Refuses (.calSet tag (inst :: range :: fields)) ⟨0x0C, tag, inst :: range :: fields⟩ (fun _ => True) 0x03 := by
  refine Answers.of id _ (fun _ => rfl) fun s _ => ?_
  simp only [List.length_cons, hl]
  rcases h with h | h | h
  · rw [h]
    rfl
  · rw [h]
    cases readInst inst <;> rfl
  · rw [h]
    cases readInst inst <;> cases readIndex8 range <;> rfl

/-- Settles O25: the entry as it is read from the body, and the refusals of the three readers. -/
theorem calibrationIsSetAndRead : Obligations.CalibrationIsSetAndRead := by
  refine ⟨fun tag o0 o1 o2 g0 g1 g2 unit valid i r hg hv => ?_, fun tag inst range o0 o1 o2 g0 g1 g2 unit valid h => ?_,
    fun tag i => ?_, fun tag inst h => ?_⟩
  · exact calSet_answers tag _ i r _ rfl (readCalEntry_some o0 o1 o2 g0 g1 g2 unit valid hg hv)
  · exact calSet_refuses tag inst range _ rfl (h.imp (readInst_none inst) fun h =>
      h.imp (readIndex8_none range) (readCalEntry_none o0 o1 o2 g0 g1 g2 unit valid))
  · refine Answers.of id _ (fun _ => rfl) fun s _ => ?_
    simp only [readInst_ofNat]
    rfl
  · refine Answers.of id _ (fun _ => rfl) fun s _ => ?_
    simp only [readInst_none inst h]
    rfl

end Sys2Proof.Machine
end

section
/-! The checks that a MEASURE or a ZERO makes before those of its port (O46; R126, R127, R140, R141). -/

namespace Sys2Proof.Machine

variable (s : State)

/-! ### What the checks ask -/

theorem limitMissing_eq_true (r : StepRecord) (f : MeasureFields) (l : Byte) (hk : r.kind = .measure f)
    (hl : f.limit = some l) (h : s.limits.get l.toNat = none) : limitMissing s r = true := by
  simp only [limitMissing, hk, hl, h, Option.isNone_none]

theorem limitMissing_eq_false (r : StepRecord) (f : MeasureFields) (hk : r.kind = .measure f)
    (h : ∀ l, f.limit = some l → s.limits.get l.toNat ≠ none) : limitMissing s r = false := by
  simp only [limitMissing, hk]
  split
  · rename_i l hl
    exact Option.isNone_eq_false_iff.2 (Option.isSome_iff_ne_none.2 (h l hl))
  · rfl

theorem limitMissing_zero (r : StepRecord) (f : ZeroFields) (hk : r.kind = .zero f) : limitMissing s r = false := by
  simp only [limitMissing, hk]

theorem routeAnswer_unrouted (n : SiteId) (d : Byte) (h : s.routeFor n d = none) :
    routeAnswer s n (some d) = .error .noRoute := by
  simp only [routeAnswer, h]

/-- The answer of a definition that has a route, by the state of its entry (R72). -/
theorem routeAnswer_routed (n : SiteId) (d : Byte) (e : EntryId) (x : LiveRoute) (he : s.routeFor n d = some e)
    (hx : s.route e = some x) :
    (x.state = .faulted → routeAnswer s n (some d) = .error .routeFault) ∧
    (x.state = .making → routeAnswer s n (some d) = .making e) ∧
    (x.state = .made → routeAnswer s n (some d) = .made e x.zero) := by
  refine ⟨fun h => ?_, fun h => ?_, fun h => ?_⟩ <;> simp only [routeAnswer, he, hx, h]

/-! ### The step -/

/-- The state in which a sampling step makes its checks: the context begun anew, and no wait for a route. -/
def samplingChecks (n : SiteId) (s : State) : State :=
  s.setSite n { s.site n with meas := { Measure.empty with phase := .checking }, settleOn := none }

@[simp] theorem checkedContext_none (isZero : Bool) :
    checkedContext isZero none none = { Measure.empty with phase := .checking } := by
  cases isZero <;> rfl

@[simp] theorem limitMissing_setSite (n : SiteId) (c : Site) (r : StepRecord) :
    limitMissing (s.setSite n c) r = limitMissing s r := rfl

@[simp] theorem routeAnswer_setSite (n m : SiteId) (c : Site) (d : Option Byte) :
    routeAnswer (s.setSite m c) n d = routeAnswer s n d := rfl

section
variable (n : SiteId) (r : StepRecord)

theorem samplingStep_badStep (hm : limitMissing s r = true) :
    samplingStep n r s = stepError n .badStep (samplingChecks n s) := by
  simp only [samplingStep, checkedContext_none, limitMissing_setSite, hm, if_true, samplingChecks]

theorem samplingStep_error (e : StepError) (hm : limitMissing s r = false)
    (ha : routeAnswer s n r.namedRoute = .error e) : samplingStep n r s = stepError n e (samplingChecks n s) := by
  simp only [samplingStep, checkedContext_none, limitMissing_setSite, routeAnswer_setSite, hm, ha, Bool.false_eq_true,
    if_false, samplingChecks]

/-- A route in MAKING is waited for (R127). -/
theorem samplingStep_making (e : EntryId) (hm : limitMissing s r = false)
    (ha : routeAnswer s n r.namedRoute = .making e) : samplingStep n r s =
      (samplingChecks n s).setSite n { (samplingChecks n s).site n with phase := .wait .settle, settleOn := some e } := by
  simp only [samplingStep, checkedContext_none, limitMissing_setSite, routeAnswer_setSite, hm, ha, Bool.false_eq_true,
    if_false, samplingChecks, waitFor, State.setSite_site_same, State.setSite_setSite]

/-- The port checks follow, with the zero of the route for a MEASURE (R126, R141). -/
theorem samplingStep_made (e : EntryId) (zero : Option Int) (i : InstrId) (c : PortCommand)
    (hm : limitMissing s r = false) (ha : routeAnswer s n r.namedRoute = .made e zero)
    (hc : r.portCommand = some (i, c)) : samplingStep n r s =
      portStep n i c ((samplingChecks n s).setSite n { (samplingChecks n s).site n with
        meas := checkedContext r.kind.isZero (some e) zero }) := by
  simp only [samplingStep, checkedContext_none, limitMissing_setSite, routeAnswer_setSite, hm, ha, hc, Bool.false_eq_true,
    if_false, samplingChecks]

theorem samplingStep_notNamed (i : InstrId) (c : PortCommand) (hm : limitMissing s r = false)
    (hn : r.namedRoute = none) (hc : r.portCommand = some (i, c)) :
    samplingStep n r s = portStep n i c (samplingChecks n s) := by
  simp only [samplingStep, checkedContext_none, limitMissing_setSite, hm, hn, routeAnswer, hc, Bool.false_eq_true,
    if_false, samplingChecks]

/-- A sampling step on a named route, once its limit set is there: what each answer of the route leads to. -/
theorem samplingStep_routed (d : Byte) (i : InstrId) (hm : limitMissing s r = false) (hd : r.namedRoute = some d)
    (hc : r.portCommand = some (i, .sample)) :
    (s.routeFor n d = none → samplingStep n r s = stepError n .noRoute (samplingChecks n s)) ∧
    ∀ e x, s.routeFor n d = some e → s.route e = some x →
      (x.state = .faulted → samplingStep n r s = stepError n .routeFault (samplingChecks n s)) ∧
      (x.state = .making → samplingStep n r s = (samplingChecks n s).setSite n { (samplingChecks n s).site n with
        phase := .wait .settle, settleOn := some e }) ∧
      (x.state = .made → samplingStep n r s =
        portStep n i .sample ((samplingChecks n s).setSite n { (samplingChecks n s).site n with
          meas := checkedContext r.kind.isZero (some e) x.zero })) := by
  refine ⟨fun h => samplingStep_error s n r _ hm (by rw [hd, routeAnswer_unrouted s n d h]), fun e x he hx => ?_⟩
  obtain ⟨faulted, making, made⟩ := routeAnswer_routed s n d e x he hx
  rw [← hd] at faulted making made
  exact ⟨fun h => samplingStep_error s n r _ hm (faulted h), fun h => samplingStep_making s n r e hm (making h),
    fun h => samplingStep_made s n r e x.zero i .sample hm (made h) hc⟩

end

/-- Settles O46: the limit set, then the route if one is named, for a MEASURE and for a ZERO. -/
theorem samplingStepsCheckTheRoute : Obligations.SamplingStepsCheckTheRoute := by
  intro n r s context t
  refine ⟨fun f l hk hl h => samplingStep_badStep s n r (limitMissing_eq_true s r f l hk hl h), fun f hk h => ?_,
    fun f hk => ?_⟩
  · have present := limitMissing_eq_false s r f hk h
    have port : r.portCommand = some (f.inst, .sample) := by rw [StepRecord.portCommand, hk]
    have named : r.namedRoute = f.route := by rw [StepRecord.namedRoute, hk]
    have measures : r.kind.isZero = false := by rw [hk]; rfl
    refine ⟨fun hd => samplingStep_notNamed s n r _ _ present (named.trans hd) port, fun d hd => ?_⟩
    have routed := samplingStep_routed s n r d f.inst present (named.trans hd) port
    rw [measures] at routed
    exact routed
  · have port : r.portCommand = some (f.inst, .sample) := by rw [StepRecord.portCommand, hk]
    have named : r.namedRoute = some f.route := by rw [StepRecord.namedRoute, hk]
    have zeroes : r.kind.isZero = true := by rw [hk]; rfl
    have routed := samplingStep_routed s n r f.route f.inst (limitMissing_zero s r f hk) named port
    rw [zeroes] at routed
    exact routed

end Sys2Proof.Machine
end

section
/-! The completion of a MEASURE and of a ZERO (O48; R73, R138, R143). -/

namespace Sys2Proof.Machine

variable (s : State)

/-! ### The bin of a MEASURE -/

theorem Bin.isFail_eq (b : Bin) : b.isFail = decide (b = .failLow ∨ b = .failHigh ∨ b = .invalid) := by
  cases b <;> decide

theorem raiseWorst_fail (w : Option Worst) : raiseWorst w (some .fail) = some .fail := by
  rcases w with _ | _ | _ | _ <;> rfl

theorem raiseWorst_margin (w : Option Worst) :
    raiseWorst w (some .margin) = if w = some .fail then w else some .margin := by
  rcases w with _ | _ | _ | _ <;> rfl

theorem raiseWorst_pass (w : Option Worst) : raiseWorst w (some .pass) = if w = none then some .pass else w := by
  rcases w with _ | _ | _ | _ <;> rfl

/-- The counter of the bin and the worst bin take it; the other counters stay (R138). -/
theorem countBin_eq (c : Site) (b : Bin) :
    let isFail := b = .failLow ∨ b = .failHigh ∨ b = .invalid
    countBin s c b = { c with
      passCount := if b = .pass then bumpRun c.passCount s else c.passCount
      marginCount := if b = .margin then bumpRun c.marginCount s else c.marginCount
      failCount := if isFail then bumpRun c.failCount s else c.failCount
      noJudgeCount := if b = .noJudge then bumpRun c.noJudgeCount s else c.noJudgeCount
      worst := if isFail then some .fail
        else if b = .margin ∧ c.worst ≠ some .fail then some .margin
        else if b = .pass ∧ c.worst = none then some .pass
        else c.worst } := by
  cases b with
  | pass =>
    simp [countBin, Bin.rank, raiseWorst_pass]
  | margin => simp [countBin, Bin.rank, raiseWorst_margin]
  | noJudge => simp [countBin, Bin.rank]
  | failLow | failHigh | invalid => simp [countBin, Bin.rank, raiseWorst_fail]

theorem runCountFull_iff (c : Site) (b : Bin) : runCountFull c b = true ↔
    (b = .pass ∧ c.passCount = 4294967295) ∨ (b = .margin ∧ c.marginCount = 4294967295) ∨
      ((b = .failLow ∨ b = .failHigh ∨ b = .invalid) ∧ c.failCount = 4294967295) ∨
      (b = .noJudge ∧ c.noJudgeCount = 4294967295) := by
  cases b <;> simp [runCountFull]

/-! ### The site context of a MEASURE that completes -/

/-- A context with the store variable written, unless the bin is INVALID, and the judgement taken (R138). -/
def Site.withJudgement (c : Site) (store : Option (Fin 8)) (j : Judged) : Site :=
  { c with
    vars := match store with
      | some k => if j.bin = .invalid then c.vars else c.vars.set k ⟨j.value, true⟩
      | none => c.vars
    lastJudgement := some j.bin }

theorem measuredSite_eq (c : Site) (store : Option (Fin 8)) (j : Judged) : measuredSite s c store j =
    { (if c.state = .run then countBin s (c.withJudgement store j) j.bin else c.withJudgement store j) with
      meas := .empty } := by
  cases store with
  | none => rfl
  | some k =>
    by_cases h : j.bin = .invalid
    · simp only [measuredSite, Site.withJudgement, if_pos h]
    · simp only [measuredSite, Site.withJudgement, if_neg h]

theorem completeMeasure_eq (n : SiteId) (f : MeasureFields) (j : Judged) : completeMeasure n f j s =
    finishStep n j.bin.isFail (some j.bin) { s.setSite n (measuredSite s (s.site n) f.store j) with
      freeIndex := if (s.site n).state = .run ∧ runCountFull (s.site n) j.bin = true then s.freeIndex + 1
        else s.freeIndex } := by
  by_cases h : (s.site n).state = .run ∧ runCountFull (s.site n) j.bin = true
  · simp only [completeMeasure, h, if_true, decide_true, Bool.and_true, and_self, State.setSite_freeIndex]
  · have stale : ¬ (decide ((s.site n).state = .run) && runCountFull (s.site n) j.bin) = true := by simpa using h
    simp only [completeMeasure, if_neg h, if_neg stale]
    rfl

theorem completeMeasure_manual (n : SiteId) (f : MeasureFields) (j : Judged) (h : (s.site n).state = .manual) :
    completeMeasure n f j s = finishStep n j.bin.isFail (some j.bin)
      (s.setSite n { (s.site n).withJudgement f.store j with meas := .empty }) := by
  have rests : (s.site n).state ≠ .run := by rw [h]; decide
  rw [completeMeasure_eq, measuredSite_eq, if_neg rests, if_neg (fun hr => rests hr.1)]
  rfl

theorem completeMeasure_run (n : SiteId) (f : MeasureFields) (j : Judged) (h : (s.site n).state = .run) :
    completeMeasure n f j s = finishStep n j.bin.isFail (some j.bin)
      { s.setSite n { countBin s ((s.site n).withJudgement f.store j) j.bin with meas := .empty } with
        freeIndex := if runCountFull (s.site n) j.bin = true then s.freeIndex + 1 else s.freeIndex } := by
  rw [completeMeasure_eq, measuredSite_eq, if_pos h]
  simp only [h, true_and]

/-! ### A ZERO that completes -/

theorem completeZero_accepted (n : SiteId) (j : Judged) (e : EntryId) (x : LiveRoute) (hb : j.bin ≠ .invalid)
    (he : (s.site n).meas.entry = some e) (hx : s.route e = some x) : completeZero n j s = finishStep n false none
      ((s.setRoutes (s.routes.put e { x with zero := some j.value })).setSite n { s.site n with meas := .empty }) := by
  simp only [completeZero, if_neg hb, writeZero, he, hx, State.setRoutes_site]

theorem completeZero_refused_run (n : SiteId) (j : Judged) (hb : j.bin = .invalid) (h : (s.site n).state = .run) :
    completeZero n j s = pushTodo n (.enter .stepError (some .noZeroOvr))
      (s.setSite n { (s.site n).clearStep with meas := .empty, phase := .step }) := by
  simp only [completeZero, if_pos hb, if_pos h, State.setSite_site_same, State.setSite_setSite]
  rfl

theorem completeZero_refused_manual (n : SiteId) (j : Judged) (r : StepRecord) (ht : (s.site n).taking = some r)
    (hb : j.bin = .invalid) (h : (s.site n).state = .manual) : completeZero n j s =
      stepDoneNotice n r 2 none (some .noZeroOvr)
        (s.setSite n { (s.site n).clearStep with meas := .empty, phase := .noStep }) := by
  have rests : (s.site n).state ≠ .run := by rw [h]; decide
  simp only [completeZero, hb, if_true, if_neg rests, directError, State.setSite_site_same, ht, State.setSite_setSite]
  rfl

/-! ### The step in progress -/

theorem completeMeasurement_measure (n : SiteId) (f : MeasureFields) (j : Judged) (r : StepRecord)
    (ht : (s.site n).taking = some r) (hk : r.kind = .measure f) :
    completeMeasurement n j s = completeMeasure n f j s := by
  obtain ⟨tag, next, onFail, kind⟩ := r
  obtain rfl : kind = .measure f := hk
  simp only [completeMeasurement, ht]

theorem completeMeasurement_zero (n : SiteId) (f : ZeroFields) (j : Judged) (r : StepRecord)
    (ht : (s.site n).taking = some r) (hk : r.kind = .zero f) : completeMeasurement n j s = completeZero n j s := by
  obtain ⟨tag, next, onFail, kind⟩ := r
  obtain rfl : kind = .zero f := hk
  simp only [completeMeasurement, ht]

/-- Settles O48: a MEASURE in MANUAL and in RUN, an accepted ZERO, and a refused one in RUN and in MANUAL. -/
theorem samplingStepsComplete : Obligations.SamplingStepsComplete := by
  refine ⟨fun n f j r s ht hk => ?_, fun n f j r s ht hk => ?_⟩
  · intro c bump isFail vars
    rw [completeMeasurement_measure s n f j r ht hk]
    refine ⟨fun h => ?_, fun h => ?_⟩
    · rw [completeMeasure_manual s n f j h, Bin.isFail_eq]
      rfl
    · rw [completeMeasure_run s n f j h, Bin.isFail_eq, countBin_eq]
      simp only [runCountFull_iff]
      rfl
  · rw [completeMeasurement_zero s n f j r ht hk]
    refine ⟨completeZero_accepted s n j, completeZero_refused_run s n j, fun hb h => ?_⟩
    rw [completeZero_refused_manual s n j r ht hb h, stepDoneNotice, hk]
    rfl

end Sys2Proof.Machine
end

section
/-! The result queue: FETCH, the examination of the space list, and a post that is admitted (O30; R144, R146, R147, R150,
R151, R154, R155). -/

namespace Sys2Proof.Machine

variable (s : State)

/-! ### The bytes of a record (R144, R149) -/

theorem stepRefBytes_length (x : Option StepRef) : (stepRefBytes x).length = 2 := by
  rcases x with _ | _ | _ <;> rfl

theorem recordBytes_sample_length (r : SampleRecord) : (recordBytes (.sample r)).length = 31 := by
  simp only [recordBytes, u8, le16, le32, le32i, List.length_append, List.length_cons, List.length_nil,
    stepRefBytes_length]

theorem recordBytes_runEnd_length (r : RunEndRecord) : (recordBytes (.runEnd r)).length = 43 := by
  simp only [recordBytes, u8, le16, le32, flagByte, List.length_append, List.length_cons, List.length_nil,
    stepRefBytes_length]

/-! ### The space list (R151) -/

theorem examineList_cons (n : SiteId) (rest : List SiteId) : examineList (n :: rest) s =
    if s.runCount < 1024 - s.queue.posted.length then
      examineList rest (admitPost n { s with queue := { s.queue with space := rest } })
    else s := rfl

theorem settle_examineSpace_nil (ha : s.agenda = []) (hq : s.queue.space = []) : settle (examineSpace s) = s := by
  rw [examineSpace_nil s hq, settle_nil s ha]

/-! ### FETCH (R154) -/

/-- The records that FETCH replies have left the list; the space list is examined unless there was none. -/
theorem fetchRecords_eq (tag n : Byte) (hn : 1 ≤ n.toNat) :
    let t := send ⟨0x64, tag, [0x00, BitVec.ofNat 8 (min n.toNat s.queue.posted.length)] ++
      (s.queue.posted.take n.toNat).flatMap recordBytes⟩
      { s with queue := { s.queue with posted := s.queue.posted.drop n.toNat } }
    fetchRecords tag n.toNat s = if s.queue.posted = [] then t else examineSpace t := by
  have none_out : (s.queue.posted.take n.toNat).isEmpty = true ↔ s.queue.posted = [] := by
    rw [List.isEmpty_iff, List.take_eq_nil_iff]
    exact or_iff_right (by omega)
  simp only [fetchRecords, none_out, List.length_take]
  rfl

theorem fetch_answers {tag n : Byte} (h1 : 1 ≤ n.toNat) (h16 : n.toNat ≤ 16) {guard : State → Prop}
    {effect : State → State} (hh : ∀ s, guard s → settle (fetchRecords tag n.toNat s) = effect s) :
    Answers (.fetch tag [n]) ⟨0x24, tag, [n]⟩ guard effect := by
  refine Answers.of settle _ (fun _ => rfl) fun s hg => ?_
  have inRange : ¬ (n = 0 ∨ 16 < n.toNat) := by
    rintro (rfl | h)
    · exact absurd h1 (by decide)
    · omega
  exact (congrArg settle (if_neg inRange)).trans (hh s hg)

theorem fetch_refuses (tag n : Byte) (h : n = 0 ∨ 16 < n.toNat) :
    Refuses (.fetch tag [n]) ⟨0x24, tag, [n]⟩ (fun s => s.agenda = []) 0x03 := by
  refine Answers.of settle _ (fun _ => rfl) fun s ha => ?_
  exact (congrArg settle (if_pos h)).trans (settle_nil _ ha)

/-! ### What a completion leaves of the queue and the time -/

/-- The queue and the time base are as they were. -/
def SameQueue (s t : State) : Prop := t.queue = s.queue ∧ t.time = s.time

theorem SameQueue.trans {s t u : State} (h : SameQueue s t) (k : SameQueue t u) : SameQueue s u :=
  ⟨k.1.trans h.1, k.2.trans h.2⟩

theorem notice_sameQueue (kind : Byte) (body : List Byte) : SameQueue s (notice kind body s) := by
  rw [notice_only]
  exact ⟨rfl, rfl⟩

theorem finishStep_sameQueue (n : SiteId) (failed : Bool) (bin : Option Bin) :
    SameQueue s (finishStep n failed bin s) := by
  unfold finishStep
  simp only
  split
  · exact ⟨rfl, rfl⟩
  · split
    · exact ⟨rfl, rfl⟩
    · exact notice_sameQueue (s.setSite n _) ..

theorem writeZero_sameQueue (e : Option EntryId) (z : Int) : SameQueue s (writeZero e z s) := by
  unfold writeZero
  split
  · split <;> exact ⟨rfl, rfl⟩
  · exact ⟨rfl, rfl⟩

theorem directError_sameQueue (n : SiteId) (err : StepError) : SameQueue s (directError n err s) := by
  unfold directError
  simp only
  split
  · exact notice_sameQueue (s.setSite n _) ..
  · exact ⟨rfl, rfl⟩

theorem completeMeasure_sameQueue (n : SiteId) (f : MeasureFields) (j : Judged) :
    SameQueue s (completeMeasure n f j s) := by
  rw [completeMeasure_eq]
  exact finishStep_sameQueue { s.setSite n _ with freeIndex := _ } ..

theorem completeZero_sameQueue (n : SiteId) (j : Judged) : SameQueue s (completeZero n j s) := by
  unfold completeZero
  simp only
  split
  · split
    · exact ⟨rfl, rfl⟩
    · exact directError_sameQueue (s.setSite n _) ..
  · exact (writeZero_sameQueue s _ _).trans (finishStep_sameQueue (State.setSite _ n _) ..)

theorem completeMeasurement_sameQueue (n : SiteId) (j : Judged) : SameQueue s (completeMeasurement n j s) := by
  unfold completeMeasurement
  split
  · exact completeMeasure_sameQueue ..
  · exact completeZero_sameQueue ..
  · exact ⟨rfl, rfl⟩

/-! ### A post that is admitted (R150) -/

/-- The record that a measurement is filed under (R144, R148). -/
def filedSample (s : State) (n : SiteId) (r : StepRecord) (x : Sampling) (j : Judged) : SampleRecord where
  zero := r.kind.isZero
  seq := s.queue.seq
  site := n
  runNumber := if (s.site n).state = .run then (s.site n).runNumber else 0
  step := (s.site n).current
  tag := r.tag
  inst := x.inst
  range := x.range
  unitCode := (s.site n).meas.unitCode
  result := j
  taken := (s.site n).meas.taken
  firstTrigger := (s.site n).meas.firstTrigger
  conversion := (s.site n).meas.lastConversion

theorem sampleRecord_eq (n : SiteId) (r : StepRecord) (x : Sampling) (j : Judged) :
    sampleRecord s n r x j = .sample (filedSample s n r x j) := rfl

theorem admitPost_eq (n : SiteId) (r : StepRecord) (x : Sampling) (j : Judged) (ht : (s.site n).taking = some r)
    (hj : (s.site n).meas.result = some j) (hx : r.sampling = some x) : admitPost n s =
      readyIf s.queue.posted.isEmpty (.sample (filedSample s n r x j))
        (completeMeasurement n j (post (.sample (filedSample s n r x j)) s)) := by
  simp only [admitPost, ht, hj, hx, sampleRecord_eq]

/-- RESULTS_READY of a sample record, when it is the first in the list (R155). -/
theorem readyIf_sample (posted : List ResultRecord) (q : SampleRecord) : readyIf posted.isEmpty (.sample q) s =
    if posted = [] then
      notice 0x80 (le32 q.seq.toNat ++ [if q.zero then 0x02 else 0x01, BitVec.ofNat 8 q.site] ++ le32 s.time.toNat) s
    else s := by
  cases posted with
  | nil => cases h : q.zero <;> simp [readyIf, resultsReadyNotice, recordSeq, recordKind, recordSite, u8, timeBytes, h]
  | cons p ps => rfl

theorem readyIf_queue (wasEmpty : Bool) (filed : ResultRecord) : (readyIf wasEmpty filed s).queue = s.queue := by
  rw [readyIf_only]

/-- Settles O30: FETCH, the lengths of the records, the examination of the space list, and the post that is admitted. -/
theorem resultsArePostedAndFetched : Obligations.ResultsArePostedAndFetched := by
  refine ⟨⟨fun tag n h1 h16 => fetch_answers h1 h16 fun s ⟨ha, hq⟩ => ?_,
    fun tag n h1 h16 => fetch_answers h1 h16 fun s ⟨hp, hs⟩ => ?_, fetch_refuses, recordBytes_sample_length,
    recordBytes_runEnd_length⟩,
    ⟨⟨fun s => rfl, fun s => rfl, fun n rest s => examineList_cons s n rest⟩, fun n rest s hs => ?_, fun n s => rfl,
      fun n r x j s ht hj hx => ?_⟩⟩
  · rw [fetchRecords_eq s tag n h1]
    split
    · exact settle_nil _ ha
    · rename_i hp
      exact settle_examineSpace_nil _ ha (hq.resolve_left hp)
  · rw [fetchRecords_eq s tag n h1, if_neg hp]
  · rw [examineSpace, hs]
    exact examineList_cons s n rest
  · let q := filedSample s n r x j
    obtain ⟨hqueue, htime⟩ := completeMeasurement_sameQueue (post (.sample q) s) n j
    have admitted := admitPost_eq s n r x j ht hj hx
    have queue : (admitPost n s).queue = (post (.sample q) s).queue := by
      rw [admitted, readyIf_queue, hqueue]
    refine ⟨q, ?_, ?_, ?_, rfl⟩
    · rw [queue]
      rfl
    · rw [queue]
      rfl
    · rw [admitted, readyIf_sample, htime]
      rfl

end Sys2Proof.Machine
end

section
/-! The identity record as a load or a host reads it, and its checks (R163, R164). -/

namespace Sys2Proof.Machine

/-! ### The record as it is read -/

theorem readHeader_nine (format t0 t1 s0 s1 s2 s3 revision count : Byte) :
    readHeader [format, t0, t1, s0, s1, s2, s3, revision, count] =
      some ⟨format, t1 ++ t0, s3 ++ s2 ++ s1 ++ s0, revision, count⟩ := by
  rw [readHeader, ofNat_read16, ofNat_read32]

theorem readHeader_headerBytesOf (h : IdentityHeader) : readHeader (headerBytesOf h) = some h := by
  show some (IdentityHeader.mk _ (BitVec.ofNat 16 _) (BitVec.ofNat 32 _) _ _) = some h
  rw [ofNat_read16_le16, ofNat_read32_le32]

theorem headerBytesOf_length (h : IdentityHeader) : (headerBytesOf h).length = 9 := rfl

/-- The four bytes of a window in the record. -/
def windowBytes (w : Window) : List Byte := le16 w.base ++ le16 w.size

/-- The bytes of the record behind its header: the windows, and the CRC high byte first. -/
def identityBodyBytes (ws : List Window) (crc : BitVec 16) : List Byte :=
  ws.flatMap windowBytes ++ [BitVec.ofNat 8 (crc.toNat / 256), BitVec.ofNat 8 crc.toNat]

theorem windowsBytes_length (ws : List Window) : (ws.flatMap windowBytes).length = 4 * ws.length := by
  rw [length_flatMap_of_size 4 windowBytes ws fun _ _ => rfl, Nat.mul_comm]

theorem readWindow_windowBytes (w : Window) (h : w.base < 65536 ∧ w.size < 65536) : readWindow (windowBytes w) = w := by
  obtain ⟨hbase, hsize⟩ := h
  show Window.mk (read16 _ _) (read16 _ _) = w
  rw [read16_le16 w.base hbase, read16_le16 w.size hsize]

theorem readIdentityBody_bytes (ws : List Window) (crc : BitVec 16) (hw : ∀ w ∈ ws, w.base < 65536 ∧ w.size < 65536) :
    readIdentityBody ws.length (identityBodyBytes ws crc) = some (ws, crc) := by
  have windows : (chunks 4 ws.length (identityBodyBytes ws crc)).map readWindow = ws := by
    rw [identityBodyBytes, chunks_flatMap 4 windowBytes ws _ fun _ _ => rfl, List.map_map]
    exact (List.map_congr_left fun w h => readWindow_windowBytes w (hw w h)).trans (List.map_id ws)
  have stored : (identityBodyBytes ws crc).drop (4 * ws.length) =
      [BitVec.ofNat 8 (crc.toNat / 256), BitVec.ofNat 8 crc.toNat] :=
    List.drop_left' (windowsBytes_length ws)
  simp only [readIdentityBody, stored, windows, ofNat_read16_le16]

theorem identityBodyBytes_windows (ws : List Window) (crc : BitVec 16) :
    (identityBodyBytes ws crc).take (4 * ws.length) = ws.flatMap windowBytes :=
  List.take_left' (windowsBytes_length ws)

/-! ### The checks (R164) -/

theorem headerCheck_format (h : IdentityHeader) (hf : h.format ≠ 1) : headerCheck h = some .format := if_pos hf

theorem headerCheck_count (h : IdentityHeader) (hf : h.format = 1) (hc : h.siteCount.toNat < 1 ∨ 8 < h.siteCount.toNat) :
    headerCheck h = some .count :=
  (if_neg (not_not.2 hf)).trans (if_pos hc)

theorem headerCheck_none_iff (h : IdentityHeader) :
    headerCheck h = none ↔ h.format = 1 ∧ 1 ≤ h.siteCount.toNat ∧ h.siteCount.toNat ≤ 8 := by
  by_cases hf : h.format = 1
  · rw [headerCheck, if_neg (not_not.2 hf), and_iff_right hf]
    split
    · exact iff_of_false (by simp) (by omega)
    · exact iff_of_true rfl (by omega)
  · rw [headerCheck_format h hf]
    exact iff_of_false (by simp) fun hs => hf hs.1

/-- The windows of a sound record lie in the matrix, and no two of them overlap. -/
def WindowsFit (ws : List Window) : Prop :=
  (∀ w ∈ ws, 1 ≤ w.size ∧ w.base + w.size ≤ 512) ∧
    ws.Pairwise fun a b => ¬(a.base < b.base + b.size ∧ b.base < a.base + a.size)

theorem windowsSound_iff (ws : List Window) : windowsSound ws = true ↔ WindowsFit ws := by
  have overlaps (a b : Window) :
      a.overlaps b = false ↔ ¬(a.base < b.base + b.size ∧ b.base < a.base + a.size) := by
    rw [Window.overlaps, ← Bool.decide_and, decide_eq_false_iff_not]
  simp only [windowsSound, WindowsFit, overlaps, Bool.and_eq_true, List.all_eq_true, decide_eq_true_eq]

theorem bodyCheck_crc (bytes : List Byte) (ws : List Window) (crc : BitVec 16) (h : crc16 bytes ≠ crc) :
    bodyCheck bytes (ws, crc) = some .crc := if_pos h

theorem bodyCheck_window (bytes : List Byte) (ws : List Window) (crc : BitVec 16) (h : crc16 bytes = crc)
    (hw : ¬ WindowsFit ws) : bodyCheck bytes (ws, crc) = some .window :=
  (if_neg (not_not.2 h)).trans (if_neg (mt (windowsSound_iff ws).1 hw))

theorem bodyCheck_sound (bytes : List Byte) (ws : List Window) (crc : BitVec 16) (h : crc16 bytes = crc)
    (hw : WindowsFit ws) : bodyCheck bytes (ws, crc) = none :=
  (if_neg (not_not.2 h)).trans (if_pos ((windowsSound_iff ws).2 hw))

theorem bodyCheck_none_iff (bytes : List Byte) (ws : List Window) (crc : BitVec 16) :
    bodyCheck bytes (ws, crc) = none ↔ crc16 bytes = crc ∧ WindowsFit ws := by
  refine ⟨fun hn => ?_, fun ⟨hc, hw⟩ => bodyCheck_sound bytes ws crc hc hw⟩
  have hc : crc16 bytes = crc := by
    by_contra hne
    rw [bodyCheck_crc bytes ws crc hne] at hn
    cases hn
  refine ⟨hc, ?_⟩
  by_contra hw
  rw [bodyCheck_window bytes ws crc hc hw] at hn
  cases hn

end Sys2Proof.Machine
end

section
/-! The ends of a load's two reads (O52; R163, R164, R168, R169, R174). -/

namespace Sys2Proof.Machine

variable (s : State)

/-! ### The HEADER read -/

theorem loadHeaderDone_refused (hs : s.fixture.state = .loading) (hl : s.fixture.loadStep = some .header) (k : Fin 4) :
    exec (.loadHeaderDone (.refused k)) s = .next (settle (endLoad none (some .noAck) (loadRefused 0 k s))) :=
  if_pos ⟨hs, hl⟩

theorem loadHeaderDone_bytes (hs : s.fixture.state = .loading) (hl : s.fixture.loadStep = some .header)
    (bytes : List Byte) (h : IdentityHeader) (hh : readHeader bytes = some h) :
    exec (.loadHeaderDone (.bytes bytes)) s = .next (settle (headerRead bytes h (busDone (collectItems 9) s))) := by
  refine (if_pos ⟨hs, hl⟩).trans ?_
  simp only [hh]

theorem headerRead_ends (bytes : List Byte) (h : IdentityHeader) (cause : LoadCause) (hc : headerCheck h = some cause) :
    headerRead bytes h s = endLoad (some ⟨h, none⟩) (some cause) s := by
  simp only [headerRead, hc]

theorem headerRead_goes_on (bytes : List Byte) (h : IdentityHeader) (hc : headerCheck h = none) :
    headerRead bytes h s = s.setFixture { s.fixture with
      sent := s.fixture.sent ++ readItems 9, loadStep := some .body, headerBytes := bytes
      lastCommand := some (.loadBody, 9, 4 * h.siteCount.toNat + 2), error := none } := by
  simp only [headerRead, hc]

/-! ### The BODY read -/

theorem loadBodyDone_refused (hs : s.fixture.state = .loading) (hl : s.fixture.loadStep = some .body)
    (h : IdentityHeader) (hb : s.fixture.headerBytes = headerBytesOf h) (k : Fin 4) :
    exec (.loadBodyDone (.refused k)) s = .next (settle (endLoad (some ⟨h, none⟩) (some .noAck) (loadRefused 4 k s))) := by
  refine (if_pos ⟨hs, hl⟩).trans ?_
  simp only [hb, readHeader_headerBytesOf]

/-- The load ends by the check of the body that was read, against the CRC of the whole record. -/
theorem loadBodyDone_bytes (hs : s.fixture.state = .loading) (hl : s.fixture.loadStep = some .body)
    (h : IdentityHeader) (hb : s.fixture.headerBytes = headerBytesOf h) (ws : List Window) (crc : BitVec 16)
    (hn : h.siteCount.toNat = ws.length) (hw : ∀ w ∈ ws, w.base < 65536 ∧ w.size < 65536) :
    exec (.loadBodyDone (.bytes (identityBodyBytes ws crc))) s = .next (settle (endLoad (some ⟨h, some (ws, crc)⟩)
      (bodyCheck (headerBytesOf h ++ ws.flatMap windowBytes) (ws, crc)) (busDone (collectItems (4 * ws.length + 2)) s))) := by
  refine (if_pos ⟨hs, hl⟩).trans ?_
  have held : (busDone (collectItems (4 * ws.length + 2)) s).fixture.headerBytes = headerBytesOf h := hb
  simp only [hb, readHeader_headerBytesOf, hn, readIdentityBody_bytes ws crc hw, bodyRead, held, identityBodyBytes_windows]

/-- Settles O52: the HEADER read by the check of the header, the BODY read by the checks of the whole record. -/
theorem loadsEndInTheirChecks : Obligations.LoadsEndInTheirChecks := by
  refine ⟨fun s hs hl => ?_, fun h ws crc s hs hl hb hn hw => ?_⟩
  · intro ends collected
    have hcollected : collected = s.fixture.sent ++ collectItems 9 := List.append_assoc ..
    refine ⟨fun k => ?_, fun format t0 t1 s0 s1 s2 s3 revision count => ?_⟩
    · rw [loadHeaderDone_refused s hs hl k, loadRefused, Nat.zero_add]
      rfl
    · intro bytes held
      rw [loadHeaderDone_bytes s hs hl bytes _ (readHeader_nine ..), hcollected]
      refine ⟨fun hf => ?_, fun hf hc => ?_, fun hf h1 h8 => ?_⟩
      · rw [headerRead_ends _ bytes _ _ (headerCheck_format _ hf)]
        rfl
      · have few : count.toNat < 1 ∨ 8 < count.toNat := hc.imp_left fun h0 => by simp [h0]
        rw [headerRead_ends _ bytes _ _ (headerCheck_count _ hf few)]
        rfl
      · rw [headerRead_goes_on _ bytes _ ((headerCheck_none_iff _).2 ⟨hf, h1, h8⟩)]
        rfl
  · intro record body sound ends collected
    have hcollected : collected = s.fixture.sent ++ collectItems (4 * ws.length + 2) := List.append_assoc ..
    have read : exec (.loadBodyDone (.bytes body)) s = .next (settle (endLoad (some ⟨h, some (ws, crc)⟩)
        (bodyCheck record (ws, crc)) (busDone (collectItems (4 * ws.length + 2)) s))) :=
      loadBodyDone_bytes s hs hl h hb ws crc hn hw
    refine ⟨fun k => ?_, fun hc => ?_, fun hc hf => ?_, fun hc hf => ?_⟩
    · rw [loadBodyDone_refused s hs hl h hb k]
      rfl
    · rw [read, bodyCheck_crc _ ws crc hc, hcollected]
      rfl
    · rw [read, bodyCheck_window _ ws crc hc hf, hcollected]
      rfl
    · rw [read, bodyCheck_sound _ ws crc hc hf, hcollected]
      rfl

end Sys2Proof.Machine
end

section
/-! FIXTURE_DEFINE and FIXTURE_RELOAD (O53; R164, R172, R173), FIXMEM_TAKE and FIXMEM_GIVE (O54; R175). -/

namespace Sys2Proof.Machine

/-! ### The identity that a host supplies -/

/-- The record of one to eight windows is read back when it passes the checks of R164, and none is read when it does not. -/
theorem readIdentity_bytes (h : IdentityHeader) (ws : List Window) (crc : BitVec 16)
    (hn : h.siteCount.toNat = ws.length) (hw : ∀ w ∈ ws, w.base < 65536 ∧ w.size < 65536) :
    readIdentity (headerBytesOf h ++ identityBodyBytes ws crc) =
      if headerCheck h = none ∧ bodyCheck (headerBytesOf h ++ ws.flatMap windowBytes) (ws, crc) = none then
        some ⟨h, some (ws, crc)⟩
      else none := by
  have nine := headerBytesOf_length h
  have header : (headerBytesOf h ++ identityBodyBytes ws crc).take 9 = headerBytesOf h := List.take_left' nine
  have behind : (headerBytesOf h ++ identityBodyBytes ws crc).drop 9 = identityBodyBytes ws crc := List.drop_left' nine
  have covered : (headerBytesOf h ++ identityBodyBytes ws crc).take (9 + 4 * ws.length) =
      headerBytesOf h ++ ws.flatMap windowBytes := by
    rw [← nine, List.take_length_add_append, identityBodyBytes_windows]
  simp only [readIdentity, header, behind, readHeader_headerBytesOf, hn, readIdentityBody_bytes ws crc hw, covered]
  cases headerCheck h <;> simp

theorem fixtureDefine_length (h : IdentityHeader) (ws : List Window) (crc : BitVec 16) (h1 : 1 ≤ ws.length)
    (h8 : ws.length ≤ 8) : (headerBytesOf h ++ identityBodyBytes ws crc).length ∈ [15, 19, 23, 27, 31, 35, 39, 43] := by
  have hlen : (headerBytesOf h ++ identityBodyBytes ws crc).length = 4 * ws.length + 11 := by
    rw [List.length_append, headerBytesOf_length, identityBodyBytes, List.length_append, windowsBytes_length]
    simp only [List.length_cons, List.length_nil]
    omega
  rw [hlen]
  interval_cases ws.length <;> decide

theorem fixtureDefine_refuses {tag : Byte} {body : List Byte} (hl : body.length ∈ [15, 19, 23, 27, 31, 35, 39, 43])
    (h : readIdentity body = none) : Refuses (.fixtureDefine tag body) ⟨0x29, tag, body⟩ (fun _ => True) 0x03 := by
  refine Answers.of id _ (fun _ => rfl) fun s _ => ?_
  rw [decide_eq_true hl, withLength_allowed]
  simp only [h]
  rfl

theorem fixtureDefine_answers {tag : Byte} {body : List Byte} {i : Identity} {guard : State → Prop}
    {effect : State → State} (hl : body.length ∈ [15, 19, 23, 27, 31, 35, 39, 43]) (h : readIdentity body = some i)
    (hh : ∀ s, guard s →
      (if s.fixture.state = .loading then send ⟨0x69, tag, [0x05]⟩ s
       else if s.anyBusySite = true then send ⟨0x69, tag, [0x04]⟩ s
       else send ⟨0x69, tag, [0x00]⟩ (putEmulated i s)) = effect s) :
    Answers (.fixtureDefine tag body) ⟨0x29, tag, body⟩ guard effect := by
  refine Answers.of id _ (fun _ => rfl) fun s hg => ?_
  rw [decide_eq_true hl, withLength_allowed]
  simp only [h]
  exact hh s hg

/-! ### FIXTURE_RELOAD -/

theorem fixtureReload_answers {tag : Byte} {guard : State → Prop} {effect : State → State}
    (hh : ∀ s, guard s →
      (if s.fixture.state = .loading then send ⟨0x6A, tag, [0x05]⟩ s
       else if s.anyBusySite = true then send ⟨0x6A, tag, [0x04]⟩ s
       else if s.fixture.owner = .link then send ⟨0x6A, tag, [0x04]⟩ s
       else reloadFixture (send ⟨0x6A, tag, [0x00]⟩ s)) = effect s) :
    Answers (.fixtureReload tag []) ⟨0x2A, tag, []⟩ guard effect :=
  Answers.of id _ (fun _ => rfl) hh

/-- Under a closed lid a load begins, under an open one the identity is NONE; every site is judged (R173). -/
theorem reloadFixture_eq (s : State) : reloadFixture s = judgeAll (if (s.line 16).active = true then beginLoad s else
    fixtureNotice (s.setFixture { s.fixture with held := none, loadCause := none, state := .noIdentity })) :=
  (apply_ite judgeAll ..).symm

/-- Settles O53: FIXTURE_DEFINE by what `readIdentity` makes of its body, FIXTURE_RELOAD by its checks in order. -/
theorem identitiesAreDefinedAndReloaded : Obligations.IdentitiesAreDefinedAndReloaded := by
  refine ⟨fun tag format type serial revision ws crc h1 h8 hw => ?_, fun tag => ?_⟩
  · intro h record body sound
    have hn : h.siteCount.toNat = ws.length := Nat.mod_eq_of_lt (by omega)
    have hbody : body = headerBytesOf h ++ identityBodyBytes ws crc := List.append_assoc ..
    have hl : body.length ∈ [15, 19, 23, 27, 31, 35, 39, 43] := hbody ▸ fixtureDefine_length h ws crc h1 h8
    have read := readIdentity_bytes h ws crc hn hw
    rw [← hbody] at read
    have checks : (headerCheck h = none ∧ bodyCheck record (ws, crc) = none) ↔ sound := by
      rw [headerCheck_none_iff, bodyCheck_none_iff, hn, and_iff_left (a := h.format = 1) ⟨h1, h8⟩]
      exact Iff.rfl
    have defined (hs : sound) : readIdentity body = some ⟨h, some (ws, crc)⟩ := read.trans (if_pos (checks.2 hs))
    refine ⟨fun hs => ?_, fun hs => ?_, fun hs => ?_, fun hs => ?_⟩
    · exact fixtureDefine_refuses hl (read.trans (if_neg (mt checks.1 hs)))
    · exact fixtureDefine_answers hl (defined hs) fun s hload => if_pos hload
    · exact fixtureDefine_answers hl (defined hs) fun s ⟨hload, hbusy⟩ =>
        (if_neg hload).trans (if_pos hbusy)
    · exact fixtureDefine_answers hl (defined hs) fun s ⟨hload, hrest⟩ =>
        (if_neg hload).trans (if_neg (Bool.eq_false_iff.1 hrest))
  · refine ⟨fixtureReload_answers fun s hload => if_pos hload, fixtureReload_answers fun s ⟨hload, hstate⟩ => ?_,
      fixtureReload_answers fun s ⟨hload, hrest, howner⟩ => ?_⟩
    · exact (if_neg hload).trans ((ite_or ..).symm.trans (if_pos hstate))
    · rw [if_neg hload, hrest, howner, reloadFixture_eq]
      rfl

/-! ### The owner of the fixture memory -/

theorem fixmemTake_answers {tag : Byte} {guard : State → Prop} {effect : State → State}
    (hh : ∀ s, guard s →
      (if (s.line 16).active = true then send ⟨0x6B, tag, [0x04]⟩ s
       else if s.anyBusySite = true then send ⟨0x6B, tag, [0x04]⟩ s
       else send ⟨0x6B, tag, [0x00]⟩ (s.setFixture { s.fixture with owner := .link })) = effect s) :
    Answers (.fixmemTake tag []) ⟨0x2B, tag, []⟩ guard effect :=
  Answers.of id _ (fun _ => rfl) hh

theorem fixmemGive_answers {tag : Byte} {guard : State → Prop} {effect : State → State}
    (hh : ∀ s, guard s →
      (if s.fixture.owner = .link then
        send ⟨0x6C, tag, [0x00]⟩ (s.setFixture { s.fixture with owner := .monitor })
       else send ⟨0x6C, tag, [0x08]⟩ s) = effect s) :
    Answers (.fixmemGive tag []) ⟨0x2C, tag, []⟩ guard effect :=
  Answers.of id _ (fun _ => rfl) hh

/-- Settles O54: FIXMEM_TAKE by the lid and the sites, FIXMEM_GIVE by the owner. -/
theorem memoryIsTakenAndGiven : Obligations.MemoryIsTakenAndGiven := by
  intro tag
  refine ⟨fixmemTake_answers fun s h => (ite_or ..).symm.trans (if_pos h), fixmemTake_answers fun s ⟨hopen, hrest⟩ => ?_,
    fixmemGive_answers fun s howner => if_pos howner, fixmemGive_answers fun s howner => ?_⟩
  · rw [hopen, hrest]
    rfl
  · rw [howner]
    rfl

end Sys2Proof.Machine
end

section
/-! The transfers of the fixture memory (O55; R159, R174, R176): what a request begins, how a transfer ends, and what stands
on the bus. -/

namespace Sys2Proof.Machine

variable (s : State)

/-! ### The bus (R174) -/

theorem wordAddress_read16 (a0 a1 : Byte) : wordAddress (read16 a0 a1) = [.byte a1, .byte a0] := by
  have high : BitVec.ofNat 8 (read16 a0 a1 / 256) = a1 := by
    simp only [read16]
    bv_omega
  have low : BitVec.ofNat 8 (read16 a0 a1) = a0 := by
    simp only [read16]
    bv_omega
  rw [wordAddress, high, low]

theorem readItems_read16 (a0 a1 : Byte) :
    readItems (read16 a0 a1) = [.start, .byte 0xB8, .byte a1, .byte a0, .start, .byte 0xB9] := by
  rw [readItems, wordAddress_read16]
  rfl

theorem writeItems_read16 (a0 a1 : Byte) (data : List Byte) :
    writeItems (read16 a0 a1) data = [.start, .byte 0xB8, .byte a1, .byte a0] ++ data.map .byte := by
  rw [writeItems, wordAddress_read16]
  rfl

theorem uptoByte_bytes (k : Nat) (bytes : List Byte) : uptoByte k (bytes.map .byte) = (bytes.take (k + 1)).map .byte := by
  induction bytes generalizing k with
  | nil => cases k <;> rfl
  | cons b bytes ih =>
    cases k with
    | zero => rfl
    | succ k => exact congrArg (.byte b :: ·) (ih k)

theorem uptoByte_start (k : Nat) (items : List BusItem) : uptoByte k (.start :: items) = .start :: uptoByte k items := by
  cases k <;> rfl

theorem cutItems_bytes (k : Nat) (bytes : List Byte) :
    cutItems k (.start :: bytes.map .byte) = .start :: (bytes.take (k + 1)).map .byte ++ [.stop] := by
  rw [cutItems, uptoByte_start, uptoByte_bytes]

/-! ### The beginning of a transfer (R176) -/

/-- A command outside the memory or across pages ends with RANGE, and leaves the bus as it is. -/
theorem takeMemory_range (kind tag : Byte) (command : EngineCommand) (transfer : Transfer) (items : List BusItem)
    (address length : Nat) (crosses : Bool) (h : 2048 < address + length ∨ crosses = true) :
    takeMemory kind tag command transfer items address length crosses s = send ⟨kind + 0x40, tag, [0x09, 0x02]⟩
      (s.setFixture { s.fixture with lastCommand := some (command, address, length), error := some .range }) :=
  if_pos h

theorem takeMemory_runs (kind tag : Byte) (command : EngineCommand) (transfer : Transfer) (items : List BusItem)
    (address length : Nat) (crosses : Bool) (h : address + length ≤ 2048) (hc : crosses = false) :
    takeMemory kind tag command transfer items address length crosses s = { s with
      fixture := { s.fixture with
        lastCommand := some (command, address, length), error := none, busy := true, transfer := some transfer
        sent := items }
      link := { s.link with inProgress := some (.fixmem kind tag) } } :=
  if_neg (by simp [hc, h])

/-- The fields of a read are refused when the address or the length is out of range. -/
theorem readFields_refused_iff (address : Nat) (length : Byte) : (2047 < address ∨ length = 0 ∨ 64 < length.toNat) ↔
    ¬(address ≤ 2047 ∧ 1 ≤ length.toNat ∧ length.toNat ≤ 64) := by
  have hzero : length = 0 ↔ length.toNat = 0 := by bv_omega
  rw [hzero]
  omega

theorem writeFields_refused_iff (address : Nat) (data : List Byte) : (2047 < address ∨ data = [] ∨ 16 < data.length) ↔
    ¬(address ≤ 2047 ∧ 1 ≤ data.length ∧ data.length ≤ 16) := by
  rw [← List.length_eq_zero_iff]
  omega

theorem crossesPage_iff (address length : Nat) (h : 1 ≤ length ∧ length ≤ 16) :
    crossesPage address length = true ↔ ¬ address % 16 + length ≤ 16 := by
  rw [crossesPage, decide_eq_true_eq]
  omega

theorem fixmemRead_refuses {tag a0 a1 length : Byte} (h : ¬(read16 a0 a1 ≤ 2047 ∧ 1 ≤ length.toNat ∧ length.toNat ≤ 64)) :
    Refuses (.fixmemRead tag [a0, a1, length]) ⟨0x2D, tag, [a0, a1, length]⟩ (fun _ => True) 0x03 :=
  Answers.of id _ (fun _ => rfl) fun _ _ => if_pos ((readFields_refused_iff ..).2 h)

theorem fixmemRead_answers {tag a0 a1 length : Byte} {guard : State → Prop} {effect : State → State}
    (h : read16 a0 a1 ≤ 2047 ∧ 1 ≤ length.toNat ∧ length.toNat ≤ 64)
    (hh : ∀ s, guard s →
      (if s.fixture.owner ≠ .link then send ⟨0x6D, tag, [0x08]⟩ s
       else takeMemory 0x2D tag .read (.read length.toNat) (readItems (read16 a0 a1)) (read16 a0 a1) length.toNat false s) =
        effect s) : Answers (.fixmemRead tag [a0, a1, length]) ⟨0x2D, tag, [a0, a1, length]⟩ guard effect :=
  Answers.of id _ (fun _ => rfl) fun s hg =>
    (if_neg (mt (readFields_refused_iff ..).1 (not_not.2 h))).trans (hh s hg)

theorem fixmemWrite_refuses {tag a0 a1 : Byte} {data : List Byte}
    (h : ¬(read16 a0 a1 ≤ 2047 ∧ 1 ≤ data.length ∧ data.length ≤ 16)) :
    Refuses (.fixmemWrite tag (a0 :: a1 :: data)) ⟨0x2E, tag, a0 :: a1 :: data⟩ (fun _ => True) 0x03 := by
  refine Answers.of id _ (fun _ => rfl) fun s _ => ?_
  rw [decide_eq_true (by simp), withLength_allowed]
  exact if_pos ((writeFields_refused_iff ..).2 h)

theorem fixmemWrite_answers {tag a0 a1 : Byte} {data : List Byte} {guard : State → Prop} {effect : State → State}
    (h : read16 a0 a1 ≤ 2047 ∧ 1 ≤ data.length ∧ data.length ≤ 16)
    (hh : ∀ s, guard s →
      (if s.fixture.owner ≠ .link then send ⟨0x6E, tag, [0x08]⟩ s
       else takeMemory 0x2E tag .write (.write data.length) (writeItems (read16 a0 a1) data) (read16 a0 a1) data.length
        (crossesPage (read16 a0 a1) data.length) s) = effect s) :
    Answers (.fixmemWrite tag (a0 :: a1 :: data)) ⟨0x2E, tag, a0 :: a1 :: data⟩ guard effect := by
  refine Answers.of id _ (fun _ => rfl) fun s hg => ?_
  rw [decide_eq_true (by simp), withLength_allowed]
  exact (if_neg (mt (writeFields_refused_iff ..).1 (not_not.2 h))).trans (hh s hg)

/-! ### The end of a transfer (R176, R159) -/

/-- A transfer that ends: the error is set, the reply queued, the engine IDLE, and LID is tested. -/
def transferEnded (kind tag : Byte) (error : Option EngineError) (body : List Byte) (items : List BusItem) (s : State) :
    State :=
  settle (judgeLine 16 true { s with
    link := { s.link with inProgress := none, tx := s.link.tx ++ [⟨kind + 0x40, tag, body⟩] }
    fixture := { s.fixture with error := error, busy := false, transfer := none, sent := items } })

section
variable {kind tag : Byte} (hp : s.link.inProgress = some (.fixmem kind tag))
include hp

/-- The engine has put `items` on the bus when its transfer ends. -/
theorem endTransfer_ended (error : Option EngineError) (status : Status) (fields : List Byte) (items : List BusItem) :
    settle (endTransfer error status fields (s.setFixture { s.fixture with sent := items })) =
      transferEnded kind tag error (status.code :: fields) items s := by
  simp only [endTransfer, State.setFixture_link, hp]
  rfl

theorem fixmemReadDone_bytes (data : List Byte) (ht : s.fixture.transfer = some (.read data.length)) :
    exec (.fixmemReadDone (.bytes data)) s = .next
      (transferEnded kind tag none (0x00 :: data) (s.fixture.sent ++ collectItems data.length) s) := by
  show execFixmemReadDone _ s = _
  simp only [execFixmemReadDone, ht, if_true]
  exact congrArg (.next · : State → Answer) (endTransfer_ended s hp none .ok data _)

theorem fixmemReadDone_refused (length : Nat) (k : Fin 4) (ht : s.fixture.transfer = some (.read length)) :
    exec (.fixmemReadDone (.refused k)) s = .next
      (transferEnded kind tag (some .noAck) [0x09, 0x01] (cutItems k s.fixture.sent) s) := by
  show execFixmemReadDone _ s = _
  simp only [execFixmemReadDone, ht]
  exact congrArg (.next · : State → Answer) (endTransfer_ended s hp (some .noAck) .memoryError [0x01] _)

theorem fixmemWriteDone_refused (length k : Nat) (ht : s.fixture.transfer = some (.write length)) (hk : k < length + 3) :
    exec (.fixmemWriteDone (some k)) s = .next (transferEnded kind tag (some .noAck)
      [0x09, 0x01, BitVec.ofNat 8 (k - 3), 0] (cutItems k s.fixture.sent) s) := by
  show execFixmemWriteDone _ s = _
  simp only [execFixmemWriteDone, ht, if_pos hk]
  exact congrArg (.next · : State → Answer) (endTransfer_ended s hp (some .noAck) .memoryError (writeError (k - 3) false) _)

omit hp in
/-- The write cycle begins at the stop, and its first poll follows after 500 µs (log entry 15). -/
theorem fixmemWriteDone_acknowledged (length : Nat) (ht : s.fixture.transfer = some (.write length)) :
    exec (.fixmemWriteDone none) s = .next { s with fixture := { s.fixture with
      transfer := some (.poll length 0 ⟨s.time, 500⟩), sent := s.fixture.sent ++ [.stop] } } := by
  show execFixmemWriteDone _ s = _
  simp only [execFixmemWriteDone, ht]
  rfl

/-! ### The polls of a write cycle (R174) -/

omit hp in
theorem fixmemWritePoll_behind (ack : Bool) (length polls : Nat) (t : Timer)
    (ht : s.fixture.transfer = some (.poll length polls t)) (hr : s.reaches t = false) :
    exec (.fixmemWritePoll ack) s = .next s := by
  show execFixmemWritePoll ack s = _
  simp only [execFixmemWritePoll, ht, whenRun_behind s t _ hr]

omit hp in
theorem fixmemWritePoll_reached (ack : Bool) (length polls : Nat) (t : Timer)
    (ht : s.fixture.transfer = some (.poll length polls t)) (hr : s.reaches t = true) :
    exec (.fixmemWritePoll ack) s = .next (pollAnswered ack length polls t (s.passTo t)) := by
  show execFixmemWritePoll ack s = _
  simp only [execFixmemWritePoll, ht, whenRun_reached s t _ hr]

theorem pollAnswered_acknowledged (length polls : Nat) (t : Timer) : pollAnswered true length polls t s =
    transferEnded kind tag none [0x00] (s.fixture.sent ++ pollItems) s :=
  endTransfer_ended s hp none .ok [] _

theorem pollAnswered_last (length polls : Nat) (t : Timer) (h : 19 ≤ polls) : pollAnswered false length polls t s =
    transferEnded kind tag (some .noAck) [0x09, 0x01, BitVec.ofNat 8 length, 1] (s.fixture.sent ++ pollItems) s :=
  (if_pos (Nat.succ_le_succ h)).trans (endTransfer_ended s hp (some .noAck) .memoryError (writeError length true) _)

omit hp in
theorem pollAnswered_again (length polls : Nat) (t : Timer) (h : polls < 19) : pollAnswered false length polls t s =
    { s with fixture := { s.fixture with
      transfer := some (.poll length (polls + 1) ⟨t.expiry, 500⟩), sent := s.fixture.sent ++ pollItems } } :=
  if_neg (by omega)

end

/-- Settles O55: what FIXMEM_READ and FIXMEM_WRITE begin, the ends of a transfer, and what a refused byte leaves on the
bus. -/
theorem memoryTransfersRun : Obligations.MemoryTransfersRun := by
  refine ⟨⟨fun tag a0 a1 length => ?_, fun tag a0 a1 data => ?_⟩, fun kind tag s hp => ?_,
    fun _ _ _ _ => ⟨rfl, rfl, rfl, rfl⟩, fun k bytes _ => cutItems_bytes k bytes⟩
  · intro c f command good
    refine ⟨fixmemRead_refuses, fun h => fixmemRead_answers h fun s howner => ?_,
      fun h hrange => fixmemRead_answers h fun s howner => ?_, fun h hfits => fixmemRead_answers h fun s howner => ?_⟩
    · exact if_pos (by rw [howner]; decide)
    · exact (if_neg (not_not.2 howner)).trans (takeMemory_range _ _ _ _ _ _ _ _ _ (.inl hrange))
    · rw [if_neg (not_not.2 howner), takeMemory_runs _ _ _ _ _ _ _ _ _ hfits rfl, readItems_read16]
  · intro c f command good onePage
    refine ⟨fun h _ => fixmemWrite_refuses h, fun h => fixmemWrite_answers h fun s howner => ?_,
      fun h hpage => fixmemWrite_answers h fun s howner => ?_, fun h hpage => fixmemWrite_answers h fun s howner => ?_⟩
    · exact if_pos (by rw [howner]; decide)
    · have crosses := (crossesPage_iff (read16 a0 a1) data.length h.2).2 hpage
      exact (if_neg (not_not.2 howner)).trans (takeMemory_range _ _ _ _ _ _ _ _ _ (.inr crosses))
    · have crosses := Bool.eq_false_iff.2 fun hc => (crossesPage_iff (read16 a0 a1) data.length h.2).1 hc hpage
      have hfits : read16 a0 a1 + data.length ≤ 2048 := by omega
      rw [if_neg (not_not.2 howner), takeMemory_runs _ _ _ _ _ _ _ _ _ hfits crosses, writeItems_read16]
  · intro ends before polled
    refine ⟨fixmemReadDone_bytes s hp, fixmemReadDone_refused s hp, fun length ht => ?_, fun length polls t ht => ?_⟩
    · exact ⟨fixmemWriteDone_acknowledged s length ht, fun k hk => fixmemWriteDone_refused s hp length k ht hk⟩
    · refine ⟨fun hr ack => fixmemWritePoll_behind s ack length polls t ht hr, fun hr => ?_⟩
      have hpass : (s.passTo t).link.inProgress = some (.fixmem kind tag) := by rw [passTo_eq]; exact hp
      have hsent : polled = (s.passTo t).fixture.sent ++ pollItems := by rw [passTo_fixture]; rfl
      rw [hsent, fixmemWritePoll_reached s _ length polls t ht hr, fixmemWritePoll_reached s _ length polls t ht hr]
      refine ⟨?_, fun hpolls => ?_, fun hpolls => ?_⟩
      · exact congrArg (.next · : State → Answer) (pollAnswered_acknowledged _ hpass length polls t)
      · exact congrArg (.next · : State → Answer) (pollAnswered_again _ length polls t hpolls)
      · exact congrArg (.next · : State → Answer) (pollAnswered_last _ hpass length polls t hpolls)

end Sys2Proof.Machine
end

section
/-! ABORT and SITE_CLEAR (O19; R184, R185). -/

namespace Sys2Proof.Machine

/-- A request about one site whose handler may select steps: they are taken after it. -/
theorem siteEvent_answers {c : Instr} {kind tag : Byte} {act : SiteId → State → State} {n : SiteId}
    {guard : State → Prop} {effect : State → State}
    (hc : ∀ s, exec c s = .next (settle (siteRequest kind tag [BitVec.ofNat 8 n] act s)))
    (hh : ∀ s, guard s → settle (act n s) = effect s) : Answers c ⟨kind, tag, [BitVec.ofNat 8 n]⟩ guard effect := by
  refine Answers.of settle _ hc fun s hg => ?_
  simpa [withLength] using hh s hg

theorem siteEvent_refuses {c : Instr} {kind tag site : Byte} {act : SiteId → State → State}
    (hc : ∀ s, exec c s = .next (settle (siteRequest kind tag [site] act s))) (h : 7 < site.toNat) :
    Refuses c ⟨kind, tag, [site]⟩ (fun s => s.agenda = []) 0x03 := by
  refine Answers.of settle _ hc fun s ha => ?_
  simpa [withLength, readSite_none site h, reply_eq, Status.code] using settle_send s _ ha

theorem abort_eq (s : State) (tag site : Byte) :
    exec (.abort tag [site]) s = .next (settle (siteRequest 0x1A tag [site] (fun n s =>
      if s.works n then runTeardown n (send ⟨0x5A, tag, [0x00]⟩ (teardownEntry n .hostAbort none s))
      else send ⟨0x5A, tag, [0x04]⟩ s) s)) := rfl

theorem siteClear_eq (s : State) (tag site : Byte) :
    exec (.siteClear tag [site]) s = .next (settle (siteRequest 0x1D tag [site] (fun n s =>
      if (s.site n).state = .manual then runTeardown n (send ⟨0x5D, tag, [0x00]⟩ (teardownEntry n .cleared none s))
      else send ⟨0x5D, tag, [0x04]⟩ s) s)) := rfl

/-- Settles O19: each request takes the branch of its handler that the state of the site selects; a refusal selects no
step. -/
theorem abortAndSiteClearTearDown : Obligations.AbortAndSiteClearTearDown := by
  refine ⟨fun tag n => ⟨?_, ?_, ?_, ?_⟩, fun tag site h => ⟨?_, ?_⟩⟩
  · exact siteEvent_answers (abort_eq · tag _) fun s hs => congrArg settle (if_pos ((State.works_iff s n).2 hs))
  · refine siteEvent_answers (abort_eq · tag _) fun s ⟨ha, hrun, hmanual⟩ => ?_
    have hrest : ¬ s.works n = true := fun hw => ((State.works_iff s n).1 hw).elim hrun hmanual
    rw [if_neg hrest, settle_send s _ ha]
    rfl
  · exact siteEvent_answers (siteClear_eq · tag _) fun s hs => congrArg settle (if_pos hs)
  · refine siteEvent_answers (siteClear_eq · tag _) fun s ⟨ha, hmanual⟩ => ?_
    rw [if_neg hmanual, settle_send s _ ha]
    rfl
  · exact siteEvent_refuses (abort_eq · tag site) h
  · exact siteEvent_refuses (siteClear_eq · tag site) h

end Sys2Proof.Machine
end

section
/-! The link watchdog and the safe cause REQUEST (O9; R186, R187, R189, R190, R197). -/

namespace Sys2Proof.Machine

variable (s : State)

/-! ### The safe cause set -/

theorem SafeSet.assign_has (k : SafeSet) (c : SafeCause) : k.assign (k.has c) c = k := by cases c <;> rfl

theorem notice_safe (kind : Byte) (body : List Byte) : (notice kind body s).safe = s.safe := by rw [notice_only]

/-- After an addition the cause is in the set, and every other cause is as it was (R187). -/
theorem safeAdd_safe (c : SafeCause) : (safeAdd c s).safe = s.safe.assign true c := by
  by_cases h : s.safe.has c = true
  · rw [safeAdd_present s c h, ← h, SafeSet.assign_has]
  · have told := notice_safe { s with safe := s.safe.assign true c }
    rw [safeAdd, if_neg h]
    split <;> exact told ..

/-- After a removal the cause is not in the set, and every other cause is as it was (R187). -/
theorem safeRemove_safe (c : SafeCause) : (safeRemove c s).safe = s.safe.assign false c := by
  by_cases h : s.safe.has c = true
  · rw [safeRemove, if_pos h]
    exact notice_safe ..
  · rw [safeRemove_absent s c (Bool.eq_false_iff.2 h), ← Bool.eq_false_iff.2 h, SafeSet.assign_has]

/-! ### The link watchdog (R197) -/

theorem watchdogSet_answers (tag l0 l1 : Byte) : Answers (.watchdogSet tag [l0, l1]) ⟨0x06, tag, [l0, l1]⟩
    (fun _ => True) fun s => send ⟨0x46, tag, [0x00]⟩ { s with link := { s.link with
      limit := l1 ++ l0
      watchdog := if read16 l0 l1 = 0 then none else some ⟨s.time, read16 l0 l1 * 1000⟩ } } := by
  refine Answers.of id _ (fun _ => rfl) fun s _ => ?_
  have hlimit : (BitVec.ofNat 16 (read16 l0 l1)).toNat = read16 l0 l1 := by
    rw [BitVec.toNat_ofNat, read16]
    omega
  show send _ (restartWatchdog (s.setLink { s.link with limit := BitVec.ofNat 16 (read16 l0 l1) })) = _
  rw [restartWatchdog, State.setLink_link, hlimit, ofNat_read16]
  rfl

theorem passTo_safe (t : Timer) : (s.passTo t).safe = s.safe := by rw [passTo_eq]

theorem linkWatchdogExpiry_none (h : s.link.watchdog = none) : exec .linkWatchdogExpiry s = .next s := by
  show execLinkWatchdogExpiry s = _
  simp only [execLinkWatchdogExpiry, h]

theorem linkWatchdogExpiry_running (t : Timer) (h : s.link.watchdog = some t) :
    exec .linkWatchdogExpiry s = .next (whenRun t watchdogExpired s) := by
  show execLinkWatchdogExpiry s = _
  simp only [execLinkWatchdogExpiry, h]

/-- The link watchdog stopped and its expiry counted (R197, R198). -/
def watchdogStopped (s : State) : State :=
  { s with link := { s.link with watchdog := none, watchdogs := s.link.watchdogs.bump .link } }

theorem watchdogExpired_eq : watchdogExpired s = safeAdd .link (watchdogNotice (watchdogStopped s)) := rfl

theorem watchdogNotice_safe : (watchdogNotice s).safe = s.safe := notice_safe ..

/-! ### SAFE_ENTER and SAFE_LEAVE (R190) -/

/-- The reply carries the set as it stands in the state that the request has made. -/
theorem safeReply_eq (kind tag : Byte) : safeReply kind tag s =
    send ⟨kind + 0x40, tag, [0x00, Config.code .safeCauses (safeSetCode s.safe)]⟩ s := rfl

/-- Settles O9: the link watchdog, the safe cause set, and the requests that add and remove REQUEST. -/
theorem safeCausesOfTheHostAreSet : Obligations.SafeCausesOfTheHostAreSet := by
  refine ⟨⟨watchdogSet_answers, fun t s ht hr => ?_, fun t s ht hr => ?_, linkWatchdogExpiry_none⟩,
    fun _ _ _ => rfl, fun _ _ => rfl, fun _ _ => rfl, fun tag => ?_, fun tag => ?_⟩
  · rw [linkWatchdogExpiry_running s t ht, whenRun_behind s t _ hr]
  · rw [linkWatchdogExpiry_running s t ht, whenRun_reached s t _ hr, watchdogExpired_eq]
    have hsafe : s.safe = (watchdogNotice (watchdogStopped (s.passTo t))).safe :=
      ((watchdogNotice_safe (watchdogStopped _)).trans (passTo_safe s t)).symm
    rw [hsafe]
    rfl
  · refine Answers.of id _ (fun _ => rfl) fun s _ => ?_
    show safeReply 0x30 tag (safeAdd .request s) = _
    rw [safeReply_eq, safeAdd_safe]
    rfl
  · refine Answers.of id _ (fun _ => rfl) fun s _ => ?_
    show safeReply 0x31 tag (safeRemove .request s) = _
    rw [safeReply_eq, safeRemove_safe]
    rfl

end Sys2Proof.Machine
end

section
/-! The receiver of the host line: what it makes of the bytes of one frame (O8; R191, R192). -/

namespace Sys2Proof.Machine

/-! ### The hunt -/

theorem hunt_skips_append {α : Type} (start : Byte) (judge : List Byte → Verdict1 α) (bs rest : List Byte) :
    hunt start judge (bs ++ rest) bs.length = hunt start judge rest 0 := by
  induction bs with
  | nil => rfl
  | cons b bs ih => exact ih

theorem hunt_silent_append {α : Type} (start : Byte) (judge : List Byte → Verdict1 α) (bs rest : List Byte)
    (h : start ∉ bs) : hunt start judge (bs ++ rest) 0 = hunt start judge rest 0 := by
  induction bs with
  | nil => rfl
  | cons b bs ih =>
    rw [List.mem_cons, not_or] at h
    rw [List.cons_append, hunt, if_neg (Ne.symm h.1), ih h.2]

theorem huntFrames_more (rest : List Byte) (h : judgeFrame (0xA5 :: rest) = .more) :
    huntFrames (0xA5 :: rest) = ([], 0xA5 :: rest) := by
  rw [huntFrames, hunt, if_pos rfl, h]

theorem huntFrames_drop (rest : List Byte) (e : LinkEvent) (h : judgeFrame (0xA5 :: rest) = .drop e) :
    huntFrames (0xA5 :: rest) = (e :: (huntFrames rest).1, (huntFrames rest).2) := by
  rw [huntFrames, hunt, if_pos rfl, h]
  rfl

/-- A frame that is whole takes its own bytes, and the hunt goes on behind them. -/
theorem huntFrames_whole (bs rest : List Byte) (e : LinkEvent)
    (h : judgeFrame (0xA5 :: (bs ++ rest)) = .whole e (bs.length + 1)) :
    huntFrames (0xA5 :: (bs ++ rest)) = (e :: (huntFrames rest).1, (huntFrames rest).2) := by
  rw [huntFrames, hunt, if_pos rfl, h]
  simp only [Nat.add_sub_cancel, hunt_skips_append]
  rfl

theorem huntFrames_silent (bs : List Byte) (h : 0xA5 ∉ bs) : huntFrames bs = ([], []) := hunt_silent _ _ _ h

/-! ### The bytes of a frame -/

theorem frameCore_eq (f : Frame) :
    frameCore f = BitVec.ofNat 8 f.body.length :: BitVec.ofNat 8 (f.body.length / 256) :: f.kind :: f.tag :: f.body := rfl

theorem frameCore_length (f : Frame) : (frameCore f).length = f.body.length + 4 := rfl

theorem frameBytes_eq (f : Frame) : frameBytes f = 0xA5 :: (frameCore f ++ crcBytes (frameCore f)) := rfl

/-- The bytes of a frame up to its CRC, two bytes, and whatever follows: the CRC decides (R192). -/
theorem judgeFrame_complete (f : Frame) (c1 c0 : Byte) (rest : List Byte) (hb : f.body.length ≤ 1024) :
    judgeFrame (0xA5 :: (frameCore f ++ [c1, c0] ++ rest)) =
      if [c1, c0] = crcBytes (frameCore f) then .whole (.good f) (f.body.length + 7) else .drop .badCrc := by
  have hlen : read16 (BitVec.ofNat 8 f.body.length) (BitVec.ofNat 8 (f.body.length / 256)) = f.body.length :=
    read16_le16 _ (by omega)
  have hwhole : ¬ (f.body ++ (c1 :: c0 :: rest)).length < f.body.length + 2 := by simp
  simp only [frameCore_eq, List.cons_append, List.append_assoc, List.nil_append, judgeFrame, hlen, not_lt.2 hb, hwhole,
    if_false, List.take_left, List.drop_left, List.take_succ_cons, List.take_zero]
  rfl

theorem frameBytes_length (f : Frame) : (frameBytes f).length = f.body.length + 7 := by
  simp [frameBytes_eq, frameCore_length, crcBytes]

theorem huntFrames_good (f : Frame) (rest : List Byte) (hb : f.body.length ≤ 1024) :
    huntFrames (frameBytes f ++ rest) = (.good f :: (huntFrames rest).1, (huntFrames rest).2) := by
  refine huntFrames_whole (frameCore f ++ crcBytes (frameCore f)) rest (.good f) ?_
  rw [← List.length_cons, ← frameBytes_eq, frameBytes_length]
  exact (judgeFrame_complete f _ _ rest hb).trans (if_pos rfl)

/-- Short of its last byte a frame is not complete. -/
theorem huntFrames_prefix (f : Frame) (hb : f.body.length ≤ 1024) (k : List Byte) (hk : k <+: frameBytes f)
    (hshort : k.length < f.body.length + 7) : huntFrames k = ([], k) := by
  rw [frameBytes_eq, frameCore_eq] at hk
  rcases k with _ | ⟨b, rest⟩
  · rfl
  · obtain ⟨rfl, hrest⟩ := List.cons_prefix_cons.1 hk
    refine huntFrames_more rest ?_
    rcases rest with _ | ⟨l0, _ | ⟨l1, fields⟩⟩
    · rfl
    · rfl
    · simp only [List.cons_append, List.cons_prefix_cons] at hrest
      obtain ⟨rfl, rfl, -⟩ := hrest
      have hlen := read16_le16 f.body.length (by omega)
      rcases fields with _ | ⟨kind, _ | ⟨tag, tail⟩⟩ <;> simp only [judgeFrame, hlen, not_lt.2 hb, if_false]
      simp only [List.length_cons] at hshort
      exact if_pos (by omega)

/-- Settles O8: what stands before a frame is skipped, the frame is whole, and no part of it that ends before it is. -/
theorem receiverReadsEveryFrameTheLinkWrites : Obligations.ReceiverReadsEveryFrameTheLinkWrites := by
  refine fun f hb => ⟨fun junk rest hj => ?_, fun part tail hcut ht => ?_⟩
  · rw [List.append_assoc]
    exact (hunt_silent_append _ _ _ _ hj).trans (huntFrames_good f rest hb)
  · refine huntFrames_prefix f hb part ⟨tail, hcut.symm⟩ ?_
    have hall := frameBytes_length f
    have := List.length_pos_iff.2 ht
    rw [hcut, List.length_append] at hall
    omega

end Sys2Proof.Machine
end

section
/-! Bytes that arrive on the host line: good frames taken, damaged frames dropped and counted (O7; R192, R193, R197, R198),
and SOFT_RESET's reply (O6; R195, R201). -/

namespace Sys2Proof.Machine

variable (s : State)

/-! ### Bytes that arrive -/

/-- Bytes at a receiver that holds none: what the hunt finds in them acts on the link, and their rest is held. -/
theorem receive_hunting (bytes : List Byte) (h : s.link.rxBytes = []) : receive bytes s =
    (huntFrames bytes).1.foldl linkEvent
      (s.setLink { s.link with rxBytes := (huntFrames bytes).2, rxLast := s.time }) := by
  rw [receive, h, List.nil_append]

/-- Bytes that leave the receiver hunting. -/
theorem receive_all (bytes : List Byte) (es : List LinkEvent) (h : s.link.rxBytes = [])
    (hf : huntFrames bytes = (es, [])) :
    receive bytes s = es.foldl linkEvent (s.setLink { s.link with rxLast := s.time }) := by
  rw [receive_hunting s bytes h, hf, ← h]

/-- A good frame that arrives (R193): the receive buffer as it was decides between its place and OVERRUN. -/
theorem frameArrival_eq (f : Frame) :
    let u := safeRemove .link (restartWatchdog s)
    frameArrival f s = { u with link :=
      if s.link.rx.length < 2 then { u.link with rx := s.link.rx ++ [f] }
      else { u.link with counters := u.link.counters.bump .overrun } } := by
  intro u
  have hrx : u.link.rx = s.link.rx := by
    obtain ⟨l, k, e, hrx, -⟩ := safeRemove_shape (restartWatchdog s) .link
    exact (congrArg (fun t : State => t.link.rx) e).trans hrx
  show (if u.link.rx.length < 2 then u.setLink { u.link with rx := u.link.rx ++ [f] } else countLink .overrun u) = _
  rw [hrx]
  split <;> rfl

theorem frameLengthDrop_bytes (l0 l1 : Byte) (h : s.link.rxBytes = []) (hl : 1024 < read16 l0 l1) :
    receive [0xA5, l0, l1] s = s.setLink { s.link with
      rxLast := s.time
      counters := s.link.counters.bump .length
      rxBytes := if l0 = 0xA5 then [l0, l1] else if l1 = 0xA5 then [l1] else [] } := by
  have behind : huntFrames [l0, l1] = ([], if l0 = 0xA5 then [l0, l1] else if l1 = 0xA5 then [l1] else []) := by
    by_cases h0 : l0 = 0xA5
    · rw [if_pos h0, h0]
      exact huntFrames_more [l1] rfl
    · rw [if_neg h0]
      have silent := hunt_silent_append 0xA5 judgeFrame [l0] [l1] (by simpa using Ne.symm h0)
      by_cases h1 : l1 = 0xA5
      · subst h1
        exact silent.trans (huntFrames_more [] rfl)
      · rw [if_neg h1]
        exact silent.trans (huntFrames_silent [l1] (by simpa using Ne.symm h1))
  rw [receive_hunting s _ h, huntFrames_drop [l0, l1] .badLength (if_pos hl), behind]
  rfl

theorem badCrc_bytes (f : Frame) (c1 c0 : Byte) (h : s.link.rxBytes = []) (hb : f.body.length ≤ 1024)
    (hc : [c1, c0] ≠ crcBytes (frameCore f)) (hs : 0xA5 ∉ frameCore f ++ [c1, c0]) :
    receive ([0xA5] ++ frameCore f ++ [c1, c0]) s = s.setLink { s.link with
      rxLast := s.time, counters := s.link.counters.bump .crc } := by
  have dropped : huntFrames ([0xA5] ++ frameCore f ++ [c1, c0]) = ([.badCrc], []) := by
    have judged := (judgeFrame_complete f c1 c0 [] hb).trans (if_neg hc)
    rw [List.append_nil] at judged
    rw [List.append_assoc]
    refine (huntFrames_drop (frameCore f ++ [c1, c0]) .badCrc judged).trans ?_
    rw [huntFrames_silent _ hs]
  rw [receive_all s _ _ h dropped]
  rfl

/-! ### The gap in a frame -/

theorem fragmentGapExpiry_hunting (h : s.link.rxBytes = []) : exec .fragmentGapExpiry s = .next s := by
  show execFragmentGapExpiry s = _
  simp only [execFragmentGapExpiry, h]

/-- The partial frame is dropped, and the hunt goes on in the bytes behind its SYNC (R192). -/
def fragmentDropped (rest : List Byte) (s : State) : State :=
  (huntFrames rest).1.foldl linkEvent
    ((countLink .fragment s).setLink { (countLink .fragment s).link with rxBytes := (huntFrames rest).2 })

theorem fragmentGapExpiry_partial (b : Byte) (rest : List Byte) (h : s.link.rxBytes = b :: rest) :
    exec .fragmentGapExpiry s = .next (whenRun ⟨s.link.rxLast, 10000⟩ (fragmentDropped rest) s) := by
  show execFragmentGapExpiry s = _
  simp only [execFragmentGapExpiry, h]
  rfl

theorem fragmentDropped_silent (rest : List Byte) (h : 0xA5 ∉ rest) : fragmentDropped rest s =
    s.setLink { s.link with rxBytes := [], counters := s.link.counters.bump .fragment } := by
  rw [fragmentDropped, huntFrames_silent rest h]
  rfl

/-- Settles O7: a good frame arrives, and the four ways in which bytes are dropped or wait. -/
theorem framesAreReceivedOrDropped : Obligations.FramesAreReceivedOrDropped := by
  refine ⟨fun f s hb h => ?_, fun l0 l1 s h hl => ?_, fun f c1 c0 s h hb hc hs => ?_, fun b rest s h hr => ?_,
    fun b rest s h hs hr => ?_, fragmentGapExpiry_hunting⟩
  · have found : huntFrames (frameBytes f) = ([.good f], []) := by
      have whole := huntFrames_good f [] hb
      rwa [List.append_nil] at whole
    show Host.Outcome.next (receive (frameBytes f) s) = _
    rw [receive_all s _ _ h found]
    exact congrArg (.next · : State → Answer) (frameArrival_eq (s.setLink { s.link with rxLast := s.time }) f)
  · exact congrArg (.next · : State → Answer) (frameLengthDrop_bytes s l0 l1 h hl)
  · exact congrArg (.next · : State → Answer) (badCrc_bytes s f c1 c0 h hb hc hs)
  · rw [fragmentGapExpiry_partial s b rest h, whenRun_behind s _ _ hr]
  · rw [fragmentGapExpiry_partial s b rest h, whenRun_reached s _ _ hr, fragmentDropped_silent _ rest hs]
    rfl

/-! ### The reply of SOFT_RESET -/

theorem frameSent_empty (h : s.link.tx = []) : exec .frameSent s = .next s := by
  show execFrameSent s = _
  simp only [execFrameSent, h]

/-- The reply that SOFT_RESET waits for is the frame of KIND 0x45 with the status OK alone (R201). -/
theorem isResetReply_iff (f : Frame) : isResetReply f = true ↔ f.kind = 0x45 ∧ f.body = [0x00] := by
  simp [isResetReply]

theorem frameSent_head (f : Frame) (rest : List Frame) (h : s.link.tx = f :: rest) : exec .frameSent s =
    .next (s.setLink { s.link with
      tx := rest
      inProgress := if s.link.inProgress = some .softReset ∧ f.kind = 0x45 ∧ f.body = [0x00] then some .softResetDue
                    else s.link.inProgress }) := by
  show execFrameSent s = _
  simp only [execFrameSent, h, Bool.and_eq_true, decide_eq_true_eq, isResetReply_iff]

/-- Settles O6: the reply is queued with the request in progress, and the place of a frame sent is free. -/
theorem softResetAnswersBeforeItsEffect : Obligations.SoftResetAnswersBeforeItsEffect :=
  ⟨fun _ => Answers.of id _ (fun _ => rfl) fun _ _ => rfl, fun f rest s h => frameSent_head s f rest h,
    frameSent_empty⟩

end Sys2Proof.Machine
end

section
/-! Wrong requests: KINDs not in use and body lengths that a KIND does not allow (O10; R194, R196). -/

namespace Sys2Proof.Machine

/-! ### KINDs not in use -/

theorem mem_catalogue_of_toNat {kind : Byte} {n : Nat} (h : kind.toNat = n) (hn : BitVec.ofNat 8 n ∈ catalogue) :
    kind ∈ catalogue := by
  rwa [← h, BitVec.ofNat_toNat, BitVec.setWidth_eq] at hn

/-- A KIND outside the catalogue has no row of its own (R194). -/
theorem requestCommand_unknown (kind tag : Byte) (body : List Byte) (h : kind ∉ catalogue) :
    requestCommand ⟨kind, tag, body⟩ = .unknownKindFrame kind tag body := by
  unfold requestCommand
  split
  case h_39 => rfl
  all_goals exact absurd (mem_catalogue_of_toNat ‹kind.toNat = _› (by decide)) h

theorem kindInUse_unknown (kind : Byte) (h : kind ∉ catalogue) : kindInUse kind = false := by
  rw [kindInUse, requestCommand_unknown kind 0 [] h]

theorem unknownKindFrame_answers (kind tag : Byte) (body : List Byte) (h : kind ∉ catalogue) :
    Answers (.unknownKindFrame kind tag body) ⟨kind, tag, body⟩ (fun _ => True) (send ⟨0x40, tag, [0x01, kind]⟩) := by
  refine Answers.of id _ (fun s => ?_) fun _ _ => rfl
  exact if_neg (Bool.eq_false_iff.1 (kindInUse_unknown kind h))

/-! ### Body lengths -/

theorem statusRow_exec (s : State) (tag : Byte) (body : List Byte) :
    exec (statusRow tag body) s = .next (statusRequest tag body s) := by
  unfold statusRow
  split <;> rfl

/-- The command takes the frame as a request whose handler sees bodies of the allowed lengths alone; what its event selects
may follow. -/
def ChecksLength (c : Instr) (f : Frame) : Prop :=
  ∃ after handler : State → State, (after = id ∨ after = settle) ∧ ∀ s, exec c s =
    .next (after (takeRequest f.kind f.tag f.body
      (withLength f.kind f.tag (lengthAllowed f.kind f.body.length) handler) s))

variable {c : Instr} {kind tag : Byte} {body : List Byte} {allowed : Bool} {handler : State → State}

theorem ChecksLength.direct
    (hc : ∀ s, exec c s = .next (takeRequest kind tag body (withLength kind tag allowed handler) s))
    (hl : allowed = lengthAllowed kind body.length) : ChecksLength c ⟨kind, tag, body⟩ :=
  ⟨id, handler, .inl rfl, hl ▸ hc⟩

theorem ChecksLength.settled
    (hc : ∀ s, exec c s = .next (settle (takeRequest kind tag body (withLength kind tag allowed handler) s)))
    (hl : allowed = lengthAllowed kind body.length) : ChecksLength c ⟨kind, tag, body⟩ :=
  ⟨settle, handler, .inr rfl, hl ▸ hc⟩

/-- A request without fields. -/
theorem ChecksLength.plain (hc : ∀ s, exec c s = .next (plainRequest kind tag body handler s))
    (hl : ∀ n, lengthAllowed kind n = (n == 0)) : ChecksLength c ⟨kind, tag, body⟩ :=
  .direct hc (by rw [hl]; cases body <;> rfl)

theorem ChecksLength.refuses {f : Frame} (h : ChecksLength c f) (hl : lengthAllowed f.kind f.body.length = false) :
    Refuses c f (fun s => s.agenda = []) 0x02 := by
  obtain ⟨after, handler, hafter, hc⟩ := h
  refine Answers.of after _ hc fun s ha => ?_
  rw [hl, withLength_refused]
  rcases hafter with rfl | rfl
  · rfl
  · exact settle_send s _ ha

/-- The counts of one to eight buses, 96 bytes each, behind three bytes (R96). -/
theorem wearLoad_lengths (n : Nat) : (loadLength 3 96 n && decide (99 ≤ n ∧ n ≤ 771)) = lengthAllowed 0x13 n := by
  show _ = decide (n ∈ [99, 195, 291, 387, 483, 579, 675, 771])
  rw [loadLength, ← Bool.decide_and, decide_eq_decide]
  simp only [List.mem_cons, List.not_mem_nil, or_false]
  omega

/-- Every request in use checks the length of its body first (R194, step 2): in the order of the catalogue. -/
theorem requestCommand_checksLength : ∀ kind ∈ catalogue, ∀ tag body,
    ChecksLength (requestCommand ⟨kind, tag, body⟩) ⟨kind, tag, body⟩ := by
  simp only [catalogue, List.forall_mem_cons]
  exact ⟨
    /- IDENT -/ fun _ _ => .plain (fun _ => rfl) fun _ => rfl,
    /- STATUS -/ fun tag body => .direct (statusRow_exec · tag body) (Bool.decide_or ..),
    /- COUNTERS_READ -/ fun _ _ => .plain (fun _ => rfl) fun _ => rfl,
    /- COUNTERS_CLEAR -/ fun tag body => .direct (countersClearRow_exec · tag body) rfl,
    /- SOFT_RESET -/ fun _ _ => .plain (fun _ => rfl) fun _ => rfl,
    /- WATCHDOG_SET -/ fun _ _ => .direct (fun _ => rfl) rfl,
    /- STEPS_LOAD -/ fun _ _ => .direct (fun _ => rfl) (Bool.decide_and ..),
    /- STEPS_READ -/ fun _ _ => .direct (fun _ => rfl) rfl,
    /- ROUTEDEF_LOAD -/ fun _ _ => .direct (fun _ => rfl) (Bool.decide_and ..),
    /- LIMITS_LOAD -/ fun _ _ => .direct (fun _ => rfl) (Bool.decide_and ..),
    /- CAL_SET -/ fun _ _ => .direct (fun _ => rfl) rfl,
    /- CAL_READ -/ fun _ _ => .direct (fun _ => rfl) rfl,
    /- INSTR_SET -/ fun _ _ => .settled (fun _ => rfl) rfl,
    /- CARD_SET -/ fun tag body => .direct (cardSetRow_exec · tag body) (Bool.decide_or ..),
    /- CARD_RESET -/ fun _ _ => .direct (fun _ => rfl) rfl,
    /- WEAR_READ -/ fun _ _ => .direct (fun _ => rfl) rfl,
    /- WEAR_LOAD -/ fun _ body => .direct (fun _ => rfl) (wearLoad_lengths body.length),
    /- SITE_SET -/ fun _ _ => .direct (fun _ => rfl) rfl,
    /- START -/ fun _ _ => .settled (fun _ => rfl) rfl,
    /- ABORT -/ fun _ _ => .settled (fun _ => rfl) rfl,
    /- MANUAL -/ fun _ _ => .direct (fun _ => rfl) rfl,
    /- DIRECT -/ fun _ _ => .settled (fun _ => rfl) rfl,
    /- SITE_CLEAR -/ fun _ _ => .settled (fun _ => rfl) rfl,
    /- VAR_SET -/ fun _ _ => .direct (fun _ => rfl) rfl,
    /- VAR_READ -/ fun _ _ => .direct (fun _ => rfl) rfl,
    /- FLAG_RAISE -/ fun _ _ => .settled (fun _ => rfl) rfl,
    /- FLAG_CLEAR -/ fun _ _ => .direct (fun _ => rfl) rfl,
    /- FETCH -/ fun _ _ => .settled (fun _ => rfl) rfl,
    /- FIXTURE_READ -/ fun _ _ => .plain (fun _ => rfl) fun _ => rfl,
    /- FIXTURE_DEFINE -/ fun _ _ => .direct (fun _ => rfl) rfl,
    /- FIXTURE_RELOAD -/ fun _ _ => .plain (fun _ => rfl) fun _ => rfl,
    /- FIXMEM_TAKE -/ fun _ _ => .plain (fun _ => rfl) fun _ => rfl,
    /- FIXMEM_GIVE -/ fun _ _ => .plain (fun _ => rfl) fun _ => rfl,
    /- FIXMEM_READ -/ fun _ _ => .direct (fun _ => rfl) rfl,
    /- FIXMEM_WRITE -/ fun _ _ => .direct (fun _ => rfl) rfl,
    /- INPUTS_SET -/ fun _ _ => .settled (fun _ => rfl) rfl,
    /- SAFE_ENTER -/ fun _ _ => .plain (fun _ => rfl) fun _ => rfl,
    /- SAFE_LEAVE -/ fun _ _ => .plain (fun _ => rfl) fun _ => rfl,
    fun _ h => absurd h List.not_mem_nil⟩

/-- Settles O10: no row for a KIND that is not in use, and the length check of those that are. -/
theorem wrongRequestsAreAnswered : Obligations.WrongRequestsAreAnswered :=
  ⟨fun kind tag body h => ⟨requestCommand_unknown kind tag body h, unknownKindFrame_answers kind tag body h⟩,
    fun f hk hl => (requestCommand_checksLength f.kind hk f.tag f.body).refuses hl⟩

end Sys2Proof.Machine
end

section
/-! IDENT (O11; R194, R199, R204) and STATUS (O12; R1, R34, R44, R76, R98, R103, R125, R156, R158, R178, R200). -/

namespace Sys2Proof.Machine

/-- Settles O11: the numbers of R199 packed by R194. -/
theorem identReportsTheDevice : Obligations.IdentReportsTheDevice :=
  fun _ => report_answers (report := identReply) (fun _ => rfl) fun _ => rfl

/-! ### STATUS: the part asked -/

theorem status_answers {c : Instr} {tag : Byte} {body : List Byte} {effect : State → State} (p : StatusPart)
    (hc : ∀ s, exec c s = .next (statusRequest tag body s)) (hl : body.length = 1 ∨ body.length = 2)
    (hp : statusPart body = some p)
    (hh : ∀ s, send ⟨0x42, tag, 0x00 :: (timeBytes s ++ partBytes s p)⟩ (if p = .inputs then clearLatches s else s) =
      effect s) :
    Answers c ⟨0x02, tag, body⟩ (fun _ => True) effect := by
  refine Answers.of id _ hc fun s _ => ?_
  simp only [decide_eq_true hl, withLength_allowed, hp]
  exact hh s

theorem status_refuses {tag : Byte} {body : List Byte} (hl : body.length = 1 ∨ body.length = 2)
    (hp : statusPart body = none) : Refuses (statusRow tag body) ⟨0x02, tag, body⟩ (fun _ => True) 0x03 := by
  refine Answers.of id _ (statusRow_exec · tag body) fun s _ => ?_
  simp only [decide_eq_true hl, withLength_allowed, hp]
  rfl

theorem statusPart_routes (first : Byte) (h : first.toNat < 128) :
    statusPart [3, first] = some (.routes first.toNat) := if_pos ⟨rfl, h⟩

/-- One byte names no part when it is that of ROUTES, which wants its first index, or above 5 (R200). -/
theorem statusPart_byte (p : Byte) (h : p = 3 ∨ 5 < p.toNat) : statusPart [p] = none := by
  rcases h with rfl | h
  · rfl
  · obtain ⟨m, hm⟩ : ∃ m, p.toNat = m + 6 := ⟨_, (Nat.sub_add_cancel h).symm⟩
    simp only [statusPart, hm]

/-- Two bytes name a part when they are ROUTES and an index of an entry (R200). -/
theorem statusPart_pair (p first : Byte) (h : p ≠ 3 ∨ 128 ≤ first.toNat) : statusPart [p, first] = none :=
  if_neg fun ⟨h3, hlt⟩ => h.elim (· h3) fun hle => absurd hlt (not_lt.2 hle)

/-- The entries from `first` on, sixteen at most and none above 127 (R200). -/
theorem routesPart_eq (s : State) (first : Nat) :
    routesPart s first = (List.range' first (min 16 (128 - first))).flatMap (routeItems s) := by
  have below : ∀ count first,
      (List.range' first count).filter (· < 128) = List.range' first (min count (128 - first)) := by
    intro count
    induction count with
    | zero => simp
    | succ n ih =>
      intro first
      rw [List.range'_succ]
      by_cases h : first < 128
      · have next : min (n + 1) (128 - first) = min n (128 - (first + 1)) + 1 := by omega
        rw [List.filter_cons, decide_eq_true h, if_pos rfl, ih, next, List.range'_succ]
      · have here : min (n + 1) (128 - first) = 0 := by omega
        have behind : min n (128 - (first + 1)) = 0 := by omega
        rw [List.filter_cons, decide_eq_false h, if_neg Bool.false_ne_true, ih, here, behind, List.range'_zero,
          List.range'_zero]
  rw [routesPart, below]

/-! ### STATUS: the fields of the parts -/

theorem packOption_getD {α : Type} (width : Nat) (pack : α → List Byte) (x : Option α) :
    packOption width pack x = (x.map pack).getD (List.replicate width 0xFF) := by
  cases x <;> rfl

theorem measureItems_eq (c : Site) : measureItems c = [Config.code .measurePhase (measurePhaseCode c.meas.phase)] ++
    (if c.meas.phase = .sampling ∨ c.meas.phase = .posting then
      le16 c.meas.taken ++ packOption 2 (fun x : Sampling => le16 x.samples) (c.taking.bind StepRecord.sampling)
    else [0xFF, 0xFF, 0xFF, 0xFF]) := by
  unfold measureItems
  cases c.meas.phase <;> rfl

theorem optionCode_reason (p : Phase) : optionCode .waitReason waitCode p.reason =
    match p with | .wait x => [Config.code .waitReason (waitCode x)] | _ => [0xFF] := by
  cases p <;> rfl

theorem worstCode_byte (w : Option Worst) : u8 (worstCode w) =
    [match w with | none => (0 : Byte) | some .pass => 1 | some .margin => 2 | some .fail => 3] := by
  rcases w with _ | _ | _ | _ <;> rfl

theorem busBytes_eq (b : Option BusId) :
    busBytes b = [match b with | some b => BitVec.ofNat 8 b.val | none => (0xFF : Byte)] := by
  cases b <;> rfl

theorem terminalCode_byte (t : Terminal) :
    u8 (terminalCode t) = [match t with | .hi => (0 : Byte) | .lo => 1 | .shi => 2 | .slo => 3] := by
  cases t <;> rfl

theorem edgeByte_eq (e : EdgeSelect) : edgeByte e = [if e = .press then 0 else 1] := by cases e <;> rfl

theorem lineSite_code (l : LineId) :
    2 * (lineSite l).1 = if l.val < 8 then 0 else if l.val < 16 then 2 else 4 := by
  revert l
  decide

/-- Settles O12: a frame of STATUS part by part, its refusals, and the bytes of the parts. For these the packing of the model
is read as that of the statement first; what is left is the order of the fields. -/
theorem statusReportsThePartAsked : Obligations.StatusReportsThePartAsked := by
  refine ⟨fun _ => status_answers .summary (fun _ => rfl) (.inl rfl) rfl fun _ => rfl,
    fun _ => status_answers .sites (fun _ => rfl) (.inl rfl) rfl fun _ => rfl,
    fun _ => status_answers .instruments (fun _ => rfl) (.inl rfl) rfl fun _ => rfl,
    fun tag first h => status_answers _ (fun _ => rfl) (.inr rfl) (statusPart_routes first h) fun s => ?_,
    fun _ => status_answers .cards (fun _ => rfl) (.inl rfl) rfl fun _ => rfl,
    fun _ => status_answers .inputs (fun _ => rfl) (.inl rfl) rfl fun _ => rfl,
    fun _ p h => status_refuses (.inl rfl) (statusPart_byte p h),
    fun _ p first h => status_refuses (.inr rfl) (statusPart_pair p first h), fun s => ?_⟩
  · rw [← routesPart_eq]
    rfl
  intro left leftOr0 flag orOnes stepRef
  -- how the model packs a field, in the words of the statement
  have remaining0 : ∀ t : Option Timer, remainingOf t s.time = leftOr0 t := fun t => by cases t <;> rfl
  have remaining : ∀ t : Timer, t.remaining s.time = left t := fun _ => rfl
  have stepRefs : ∀ t, stepRefBytes t = stepRef t := fun t => by rcases t with _ | ⟨_ | _⟩ <;> rfl
  have flags : ∀ b, flagByte b = [flag b] := fun _ => rfl
  have flag0 : flag false = 0 := rfl
  have flag1 : flag true = 1 := rfl
  have polarity : ∀ b, polarityByte b = [flag (!b)] := fun b => by cases b <;> rfl
  have options : ∀ {α : Type} (width : Nat) (pack : α → List Byte) (x : Option α),
      packOption width pack x = orOnes width (x.map pack) := packOption_getD
  clear_value left leftOr0 flag orOnes stepRef
  refine ⟨?_, ?_, ?_, ?_, ?_, ?_⟩
  · simp only [summaryPart, flags, options, remaining0, packList, codeByte, u8, absent, State.free, List.append_assoc,
      List.cons_append, List.nil_append]
  · unfold sitesPart
    refine congrArg (allSites.flatMap ·) (funext fun n => ?_)
    unfold siteItems
    simp only [measureItems_eq, flags, options, remaining0, stepRefs, optionCode_reason, worstCode_byte]
    simp only [optionCode, options, codeByte, u8, List.append_assoc, List.cons_append, List.nil_append]
      <;> rfl
  · refine congrArg (allInsts.flatMap ·) (funext fun i => ?_)
    simp only [packList, instrRecordBytes, portItems, busBytes_eq, flags, options, remaining]
    simp only [optionCode, options, codeByte, u8, absent, List.append_assoc, List.cons_append, List.nil_append]
      <;> rfl
  · intro e
    unfold routeItems State.route
    cases s.routes.get e.val with
    | none => simp only [flags, flag0, absent, List.cons_append, List.nil_append]
    | some r =>
      simp only [flags, flag1, options, remaining, terminalCode_byte]
      simp only [codeByte, u8, absent, List.append_assoc, List.cons_append, List.nil_append] <;> rfl
  · refine congrArg (allCards.flatMap ·) (funext fun k => ?_)
    simp only [optionCode, flags, options, codeByte, List.append_assoc, List.cons_append, List.nil_append]
  · refine congrArg (allLines.flatMap ·) (funext fun l => ?_)
    simp only [flags, polarity, edgeByte_eq, codeByte, lineSite_code, List.cons_append, List.nil_append]

end Sys2Proof.Machine
end

section
/-! What the operations of the blocks leave of the queue of waiting commands, in the order in which the model defines them: all
of it, since none of them writes it (R194). A choice between two states is read through by `State.pending_ite`; a `split` follows
a `match` of the model. -/

namespace Sys2Proof.Machine

variable (s : State)

/-! ### Branches and folds -/

@[simp] theorem State.pending_ite {c : Prop} [Decidable c] (s t : State) :
    (if c then s else t).pending = if c then s.pending else t.pending := apply_ite ..

theorem foldl_pending {α : Type} (f : State → α → State) (xs : List α)
    (hone : ∀ s a, (f s a).pending = s.pending) : (xs.foldl f s).pending = s.pending :=
  foldl_keeps s (fun t => t.pending = s.pending) f xs (fun t a h => (hone t a).trans h) rfl

/-! ### Time, the link, safe causes, usability -/

@[simp] theorem State.passTo_pending (t : Timer) : (State.passTo s t).pending = s.pending := by
  simp [State.passTo]

@[simp] theorem send_pending (f : Frame) : (send f s).pending = s.pending := rfl
@[simp] theorem countLink_pending (k : LinkCounter) : (countLink k s).pending = s.pending := rfl
@[simp] theorem countWatchdog_pending (k : WatchdogCounter) : (countWatchdog k s).pending = s.pending := rfl

@[simp] theorem notice_pending (kind : Byte) (body : List Byte) : (notice kind body s).pending = s.pending := by
  simp [notice]

@[simp] theorem stepDoneNotice_pending (n : SiteId) (r : StepRecord) (outcome : Nat) (bin : Option Bin)
    (err : Option StepError) : (stepDoneNotice n r outcome bin err s).pending = s.pending :=
  notice_pending ..

@[simp] theorem flagNotice_pending (n : SiteId) : (flagNotice n s).pending = s.pending :=
  notice_pending ..

@[simp] theorem resultsReadyNotice_pending (rec : ResultRecord) : (resultsReadyNotice rec s).pending = s.pending :=
  notice_pending ..

@[simp] theorem runEndNotice_pending (r : RunEndRecord) : (runEndNotice r s).pending = s.pending :=
  notice_pending ..

@[simp] theorem safeNotice_pending (c : SafeCause) (added : Bool) : (safeNotice c added s).pending = s.pending :=
  notice_pending ..

@[simp] theorem watchdogNotice_pending : (watchdogNotice s).pending = s.pending :=
  notice_pending ..

@[simp] theorem cardNotice_pending (k : CardId) (cause : CardCause) (id returned : Option Byte) (differing : Nat)
    (difference : Option Nat) (pass : Nat) :
    (cardNotice k cause id returned differing difference pass s).pending = s.pending :=
  notice_pending ..

@[simp] theorem wearNotice_pending (k : CardId) (place count : Nat) :
    (wearNotice k place count s).pending = s.pending :=
  notice_pending ..

@[simp] theorem portNotice_pending (i : InstrId) (cause : PortCause) :
    (portNotice i cause s).pending = s.pending :=
  notice_pending ..

@[simp] theorem fixtureNotice_pending : (fixtureNotice s).pending = s.pending :=
  notice_pending ..

@[simp] theorem inputNotice_pending (l : LineId) (active : Bool) (press : Press) :
    (inputNotice l active press s).pending = s.pending :=
  notice_pending ..

@[simp] theorem orderAll_pending (c : Cause) : (orderAll c s).pending = s.pending := rfl

@[simp] theorem safeAdd_pending (c : SafeCause) : (safeAdd c s).pending = s.pending := by
  simp [safeAdd]

@[simp] theorem safeRemove_pending (c : SafeCause) : (safeRemove c s).pending = s.pending := by
  simp [safeRemove]

@[simp] theorem judgeSite_pending (n : SiteId) : (judgeSite s n).pending = s.pending := by
  simp [judgeSite]

@[simp] theorem judgeAll_pending : (judgeAll s).pending = s.pending := foldl_pending s _ _ judgeSite_pending

/-! ### The relay chain and the routes -/

@[simp] theorem beginPass_pending : (beginPass s).pending = s.pending := by
  simp only [beginPass]
  split <;> simp

@[simp] theorem chainKick_pending : (chainKick s).pending = s.pending := by
  simp [chainKick]

@[simp] theorem markDirty_pending : (markDirty s).pending = s.pending := rfl

@[simp] theorem setWear_pending (k : CardId) (place count : Nat) :
    (setWear k place count s).pending = s.pending := rfl

@[simp] theorem countWear_pending (k : CardId) (place : Nat) : (countWear k s place).pending = s.pending := by
  simp [countWear]

@[simp] theorem countNoted_pending : (countNoted s).pending = s.pending :=
  foldl_pending s _ _ fun t k => foldl_pending t _ _ fun u place => countWear_pending u k place

@[simp] theorem createRoute_pending (e : EntryId) (r : LiveRoute) : (createRoute e r s).pending = s.pending := by
  simp [createRoute]

@[simp] theorem breakEntry_pending (e : EntryId) : (breakEntry s e).pending = s.pending := by
  simp only [breakEntry]
  split <;> simp

@[simp] theorem breakEntries_pending (es : List EntryId) : (breakEntries es s).pending = s.pending := by
  simp [breakEntries, foldl_pending _ _ _ breakEntry_pending]

@[simp] theorem completeEntry_pending (snapshot : Matrix) (e : EntryId) :
    (completeEntry snapshot s e).pending = s.pending := by
  simp only [completeEntry]
  split <;> simp

@[simp] theorem routesPassCompletion_pending : (routesPassCompletion s).pending = s.pending :=
  foldl_pending s _ _ fun t e => completeEntry_pending t _ e

@[simp] theorem faultEntry_pending (k : CardId) (e : EntryId) : (faultEntry k s e).pending = s.pending := by
  simp only [faultEntry]
  split <;> simp

@[simp] theorem freeRoute_pending (e : EntryId) (r : LiveRoute) : (freeRoute e r s).pending = s.pending := rfl

/-! ### The ports -/

@[simp] theorem transmit_pending (i : InstrId) (kind : Byte) (body : List Byte) :
    (transmit i kind body s).pending = s.pending := rfl

@[simp] theorem sendConfig_pending (i : InstrId) (user : PortUser) (f : ConfigFields) :
    (sendConfig i user f s).pending = s.pending := rfl

@[simp] theorem sendOutput_pending (i : InstrId) (user : PortUser) (on : Bool) :
    (sendOutput i user on s).pending = s.pending := rfl

@[simp] theorem sendHello_pending (i : InstrId) : (sendHello i s).pending = s.pending := rfl
@[simp] theorem sendRead_pending (i : InstrId) : (sendRead i s).pending = s.pending := rfl

@[simp] theorem sendCancel_pending (i : InstrId) (ending : CancelEnd) :
    (sendCancel i ending s).pending = s.pending := rfl

@[simp] theorem setSource_pending (i : InstrId) (x : SourceState) : (setSource i x s).pending = s.pending := rfl

@[simp] theorem outputFailed_pending (i : InstrId) (awaited : Option Awaited) :
    (outputFailed i awaited s).pending = s.pending := by
  simp [outputFailed]

@[simp] theorem outputAbandoned_pending (i : InstrId) (awaited : Option Awaited) :
    (outputAbandoned i awaited s).pending = s.pending := by
  simp only [outputAbandoned]
  split <;> simp

@[simp] theorem answerAccepted_pending (i : InstrId) : (answerAccepted i s).pending = s.pending := rfl

@[simp] theorem countPort_pending (i : InstrId) (k : PortCounter) : (countPort i k s).pending = s.pending := rfl

@[simp] theorem reportQuiet_pending (i : InstrId) (n : SiteId) (o : QuietOutcome) :
    (reportQuiet i n o s).pending = s.pending := rfl

@[simp] theorem askSourceOff_pending (n : SiteId) (i : InstrId) : (askSourceOff n s i).pending = s.pending := by
  simp [askSourceOff]

@[simp] theorem takeSourceOff_pending (i : InstrId) : (takeSourceOff i s).pending = s.pending := by
  simp only [takeSourceOff]
  split <;> simp

@[simp] theorem giveTrigger_pending (n : SiteId) (i : InstrId) : (giveTrigger n i s).pending = s.pending := rfl

/-! ### Ends of a step, posts -/

@[simp] theorem waitFor_pending (n : SiteId) (reason : WaitReason) : (waitFor n reason s).pending = s.pending := rfl
@[simp] theorem resumeStep_pending (n : SiteId) : (resumeStep n s).pending = s.pending := rfl
@[simp] theorem pushTodo_pending (n : SiteId) (t : Todo) : (pushTodo n t s).pending = s.pending := rfl

@[simp] theorem finishStep_pending (n : SiteId) (failed : Bool) (bin : Option Bin) :
    (finishStep n failed bin s).pending = s.pending := by
  simp only [finishStep]
  split <;> simp

@[simp] theorem abandonStep_pending (n : SiteId) : (abandonStep n s).pending = s.pending := by
  rw [abandonStep_shape s n]

@[simp] theorem handover_pending (i : InstrId) : (handover i s).pending = s.pending := by
  simp only [handover]
  split <;> simp

@[simp] theorem post_pending (filed : ResultRecord) : (post filed s).pending = s.pending := rfl

@[simp] theorem readyIf_pending (wasEmpty : Bool) (filed : ResultRecord) :
    (readyIf wasEmpty filed s).pending = s.pending := by
  simp [readyIf]

@[simp] theorem completeMeasure_pending (n : SiteId) (f : MeasureFields) (j : Judged) :
    (completeMeasure n f j s).pending = s.pending := by
  simp [completeMeasure]

@[simp] theorem writeZero_pending (e : Option EntryId) (z : Int) : (writeZero e z s).pending = s.pending := by
  simp only [writeZero]
  split
  · split <;> simp
  · rfl

@[simp] theorem directError_pending (n : SiteId) (err : StepError) : (directError n err s).pending = s.pending := by
  simp only [directError]
  split <;> simp

@[simp] theorem completeZero_pending (n : SiteId) (j : Judged) : (completeZero n j s).pending = s.pending := by
  simp [completeZero]

@[simp] theorem completeMeasurement_pending (n : SiteId) (j : Judged) :
    (completeMeasurement n j s).pending = s.pending := by
  simp only [completeMeasurement]
  split <;> simp

@[simp] theorem admitPost_pending (n : SiteId) : (admitPost n s).pending = s.pending := by
  simp only [admitPost]
  split
  · split <;> simp
  · rfl

theorem examineSpace_pending : (examineSpace s).pending = s.pending :=
  examineList_keeps s (·.pending = s.pending) _ (fun _ _ h => h) (fun n t _ h => (admitPost_pending t n).trans h) rfl

@[simp] theorem takePost_pending (n : SiteId) : (takePost n s).pending = s.pending := by
  simp [takePost]

/-! ### Teardown -/

@[simp] theorem setTeardownPhase_pending (n : SiteId) (p : TeardownPhase) :
    (setTeardownPhase n p s).pending = s.pending := rfl

@[simp] theorem endTeardown_pending (n : SiteId) : (endTeardown n s).pending = s.pending := rfl

@[simp] theorem recordPhase_pending (n : SiteId) : (recordPhase n s).pending = s.pending := by
  simp [recordPhase, examineSpace_pending]

@[simp] theorem handoverAll_pending (n : SiteId) : (handoverAll n s).pending = s.pending :=
  foldl_pending s _ _ fun t i => by split <;> simp

@[simp] theorem releasePhase_pending (n : SiteId) : (releasePhase n s).pending = s.pending := by
  simp [releasePhase]

@[simp] theorem breakPhase_pending (n : SiteId) : (breakPhase n s).pending = s.pending := by
  simp [breakPhase]

@[simp] theorem quietPhase_pending (n : SiteId) : (quietPhase n s).pending = s.pending := by
  simp [quietPhase, foldl_pending _ _ _ (askSourceOff_pending · n ·)]

@[simp] theorem runTeardown_pending (n : SiteId) : (runTeardown n s).pending = s.pending := by
  simp [runTeardown]

@[simp] theorem teardownEntry_pending (n : SiteId) (cause : Cause) (err : Option StepError) :
    (teardownEntry n cause err s).pending = s.pending := by
  simp only [teardownEntry]
  split
  · split <;> simp
  · rfl

@[simp] theorem enterTeardown_pending (n : SiteId) (cause : Cause) (err : Option StepError) :
    (enterTeardown n cause err s).pending = s.pending := by
  simp [enterTeardown]

@[simp] theorem stepError_pending (n : SiteId) (err : StepError) : (stepError n err s).pending = s.pending := by
  simp only [stepError]
  split
  · simp
  · split
    · split <;> simp
    · rfl

/-! ### The step kinds -/

@[simp] theorem acquireStep_pending (n : SiteId) (i : InstrId) : (acquireStep n i s).pending = s.pending := by
  simp only [acquireStep]
  split
  · simp
  · split
    · simp
    · split <;> simp

@[simp] theorem releaseStep_pending (n : SiteId) (i : InstrId) : (releaseStep n i s).pending = s.pending := by
  simp [releaseStep]

@[simp] theorem connectStep_pending (n : SiteId) (d : Byte) : (connectStep n d s).pending = s.pending := by
  simp only [connectStep]
  split <;> simp

@[simp] theorem disconnectStep_pending (n : SiteId) (d : Byte) : (disconnectStep n d s).pending = s.pending := by
  simp only [disconnectStep]
  split <;> simp

@[simp] theorem disconnectAllStep_pending (n : SiteId) : (disconnectAllStep n s).pending = s.pending := by
  simp [disconnectAllStep]

@[simp] theorem sendCommand_pending (n : SiteId) (i : InstrId) (c : PortCommand) :
    (sendCommand n i c s).pending = s.pending := by
  simp only [sendCommand]
  split <;> simp

@[simp] theorem portStep_pending (n : SiteId) (i : InstrId) (c : PortCommand) :
    (portStep n i c s).pending = s.pending := by
  simp only [portStep]
  split
  · simp
  · split
    · simp
    · split <;> simp

@[simp] theorem samplingStep_pending (n : SiteId) (r : StepRecord) : (samplingStep n r s).pending = s.pending := by
  simp only [samplingStep]
  split
  · simp
  · split <;> simp

@[simp] theorem delayStep_pending (n : SiteId) (duration : BitVec 24) :
    (delayStep n duration s).pending = s.pending := by
  simp [delayStep]

@[simp] theorem signalStep_pending (n : SiteId) (mask : Byte) : (signalStep n mask s).pending = s.pending := by
  simp [signalStep]

@[simp] theorem flagsMatched_pending (n : SiteId) (mask : Byte) : (flagsMatched n mask s).pending = s.pending := by
  simp [flagsMatched]

@[simp] theorem waitFlagStep_pending (n : SiteId) (mask : Byte) (mode : FlagMode) (timeout : BitVec 16) :
    (waitFlagStep n mask mode timeout s).pending = s.pending := by
  simp [waitFlagStep]

@[simp] theorem performStep_pending (n : SiteId) (r : StepRecord) : (performStep n r s).pending = s.pending := by
  simp only [performStep]
  split <;> simp

@[simp] theorem takeStep_pending (n : SiteId) (k : Nat) : (takeStep n k s).pending = s.pending := by
  simp only [takeStep]
  split <;> simp

@[simp] theorem beginRun_pending (n : SiteId) (slot : Nat) (clear : Bool) :
    (beginRun n slot clear s).pending = s.pending := rfl

/-! ### The agenda -/

@[simp] theorem runTodo_pending (n : SiteId) (t : Todo) : (runTodo n t s).pending = s.pending := by
  simp only [runTodo]
  split
  · split <;> simp
  · rfl

@[simp] theorem settle_pending : (settle s).pending = s.pending :=
  settle_keeps s (·.pending = s.pending) (fun _ _ h => h) (fun n todo t h => (runTodo_pending t n todo).trans h) rfl

/-! ### Loads, routes and their sites -/

@[simp] theorem beginHeader_pending : (beginHeader s).pending = s.pending := rfl

@[simp] theorem beginLoad_pending : (beginLoad s).pending = s.pending := by
  simp [beginLoad]

@[simp] theorem listEmptied_pending : (listEmptied s).pending = s.pending := by
  simp [listEmptied]

@[simp] theorem tellMade_pending (e : EntryId) (n : SiteId) : (tellMade e n s).pending = s.pending := by
  simp only [tellMade]
  split
  · split
    · split <;> simp
    · rfl
  · rfl

@[simp] theorem routeMade_pending (e : EntryId) (r : LiveRoute) : (routeMade e r s).pending = s.pending := by
  simp [routeMade]

@[simp] theorem tellGone_pending (r : LiveRoute) : (tellGone r s).pending = s.pending := by
  simp only [tellGone]
  split <;> simp

@[simp] theorem routeGone_pending (e : EntryId) (r : LiveRoute) : (routeGone e r s).pending = s.pending := by
  simp [routeGone]

@[simp] theorem deliverRouteFault_pending (n : SiteId) : (deliverRouteFault s n).pending = s.pending := by
  simp [deliverRouteFault]

/-! ### Card faults and the completion of a pass -/

@[simp] theorem cardFault_pending (k : CardId) (cause : CardCause) (id returned : Option Byte) (differ : List Nat)
    (pass : Nat) : (cardFault k cause id returned differ pass s).pending = s.pending := by
  simp [cardFault, foldl_pending _ _ _ deliverRouteFault_pending, foldl_pending _ _ _ (faultEntry_pending · k ·)]

@[simp] theorem judgeCard_pending (k : CardId) (answer : Option CardAnswer) :
    (judgeCard k answer s).pending = s.pending := by
  simp only [judgeCard]
  split <;> simp

@[simp] theorem expireAtOnce_pending (e : EntryId) : (expireAtOnce s e).pending = s.pending := by
  simp only [expireAtOnce]
  split
  · split
    · split <;> simp
    · rfl
  · rfl

@[simp] theorem completePass_pending : (completePass s).pending = s.pending := by
  simp [completePass, foldl_pending _ _ _ expireAtOnce_pending]

/-! ### Ports that are free, samples -/

@[simp] theorem recheckPort_pending (i : InstrId) (n : SiteId) : (recheckPort i s n).pending = s.pending := by
  simp only [recheckPort]
  split
  · split <;> simp
  · rfl

@[simp] theorem portFreed_pending (i : InstrId) : (portFreed i s).pending = s.pending := by
  simp [portFreed, foldl_pending _ _ _ (recheckPort_pending · i ·)]

@[simp] theorem nextTrigger_pending (n : SiteId) (i : InstrId) (spacing : BitVec 16) :
    (nextTrigger n i spacing s).pending = s.pending := by
  simp [nextTrigger]

@[simp] theorem endSampling_pending (n : SiteId) (r : StepRecord) : (endSampling n r s).pending = s.pending := by
  simp [endSampling]

@[simp] theorem takeSample_pending (n : SiteId) (i : InstrId) (code : Int) (flagged sign : Bool)
    (trigger conversion : Time) : (takeSample n i code flagged sign trigger conversion s).pending = s.pending := by
  simp only [takeSample]
  split
  · split <;> simp
  · rfl

/-! ### The lines of the fixture -/

@[simp] theorem seatEffect_pending (n : SiteId) (active : Bool) : (seatEffect n active s).pending = s.pending := by
  simp [seatEffect]

@[simp] theorem startEffect_pending (n : SiteId) (active pressed : Bool) :
    (startEffect n active pressed s).pending = s.pending := by
  simp [startEffect]

@[simp] theorem lidOpened_pending : (lidOpened s).pending = s.pending := by
  simp [lidOpened]

@[simp] theorem lidShut_pending : (lidShut s).pending = s.pending := by
  simp only [lidShut]
  split <;> simp

@[simp] theorem acceptChange_pending (l : LineId) (filtered active mayPress : Bool) :
    (acceptChange l filtered active mayPress s).pending = s.pending := by
  simp only [acceptChange]
  split <;> simp

@[simp] theorem judgeLine_pending (l : LineId) (mayPress : Bool) : (judgeLine l mayPress s).pending = s.pending := by
  simp [judgeLine]

@[simp] theorem lidTest_pending : (lidTest s).pending = s.pending := by
  simp [lidTest]

@[simp] theorem engineIdle_pending : (engineIdle s).pending = s.pending := by
  simp [engineIdle]

/-! ### The receiver of the host link, requests -/

@[simp] theorem reply_pending (kind tag : Byte) (status : Status) (fields : List Byte) :
    (reply kind tag status fields s).pending = s.pending := rfl

@[simp] theorem restartWatchdog_pending : (restartWatchdog s).pending = s.pending := rfl

@[simp] theorem frameArrival_pending (f : Frame) : (frameArrival f s).pending = s.pending := by
  simp [frameArrival]

@[simp] theorem linkEvent_pending (e : LinkEvent) : (linkEvent s e).pending = s.pending := by
  simp only [linkEvent]
  split <;> simp

@[simp] theorem receive_pending (bytes : List Byte) : (receive bytes s).pending = s.pending :=
  foldl_pending _ _ _ linkEvent_pending

@[simp] theorem deliver_pending (f : Frame) : (deliver f s).pending = s.pending := by
  simp [deliver]

@[simp] theorem popFrame_pending : (popFrame s).pending = s.pending := rfl

/-- A request leaves the queue as it is when its handler does. -/
theorem takeRequest_pending (kind tag : Byte) (body : List Byte) (handler : State → State)
    (hh : ∀ u, (handler u).pending = u.pending) : (takeRequest kind tag body handler s).pending = s.pending := by
  simp [takeRequest, hh]

theorem request_pending (kind tag : Byte) (body : List Byte) (allowed : Bool) (handler : State → State)
    (hh : ∀ u, (handler u).pending = u.pending) :
    (takeRequest kind tag body (withLength kind tag allowed handler) s).pending = s.pending :=
  takeRequest_pending s kind tag body _ fun u => by simp [withLength, hh]

@[simp] theorem clearLinkGroups_pending : (clearLinkGroups s).pending = s.pending := rfl
@[simp] theorem resetLink_pending : (resetLink s).pending = s.pending := rfl

theorem whenRun_pending (t : Timer) (effect : State → State) (he : ∀ u, (effect u).pending = u.pending) :
    (whenRun t effect s).pending = s.pending := by
  simp [whenRun, he]

@[simp] theorem clearLatches_pending : (clearLatches s).pending = s.pending := rfl

/-! ### What the requests do -/

@[simp] theorem watchdogExpired_pending : (watchdogExpired s).pending = s.pending := by
  simp [watchdogExpired]

@[simp] theorem clearCardCounters_pending : (clearCardCounters s).pending = s.pending := rfl

@[simp] theorem clearGroup_pending (g : CounterGroup) : (clearGroup g s).pending = s.pending := by
  simp only [clearGroup]
  split <;> simp

@[simp] theorem safeReply_pending (kind tag : Byte) : (safeReply kind tag s).pending = s.pending := rfl

theorem loadTable_pending {α : Type} (kind tag : Byte) (places size : Nat) (read : List Byte → Option (Option α))
    (table : State → Table α) (write : State → Table α → State) (first : Nat) (clear : Byte) (records : List Byte)
    (hw : ∀ u t, (write u t).pending = u.pending) :
    (loadTable kind tag places size read table write first clear records s).pending = s.pending := by
  simp only [loadTable]
  split
  · simp
  · split
    · simp
    · split <;> simp [hw]

@[simp] theorem setCal_pending (i : InstrId) (r : Fin 8) (e : CalEntry) : (setCal i r e s).pending = s.pending := rfl

@[simp] theorem resetCard_pending (k : CardId) : (resetCard k s).pending = s.pending := by
  simp [resetCard]

@[simp] theorem loadWear_pending (k : CardId) (x : Nat × List Byte) : (loadWear k s x).pending = s.pending := by
  simp only [loadWear]
  split <;> simp

@[simp] theorem takeRecords_pending (k : Nat) : (takeRecords k s).pending = s.pending := rfl

@[simp] theorem fetchRecords_pending (tag : Byte) (n : Nat) : (fetchRecords tag n s).pending = s.pending := by
  simp [fetchRecords, examineSpace_pending]

@[simp] theorem setSettings_pending (n : SiteId) (entry : Nat) (enable : Bool) (limit : BitVec 16) :
    (setSettings n entry enable limit s).pending = s.pending := rfl

@[simp] theorem startSite_pending (tag : Byte) (n : SiteId) (slot : Nat) (clear : Bool) :
    (startSite tag n slot clear s).pending = s.pending := by
  simp [startSite]

theorem siteRequest_pending (kind tag : Byte) (body : List Byte) (act : SiteId → State → State)
    (ha : ∀ n u, (act n u).pending = u.pending) : (siteRequest kind tag body act s).pending = s.pending :=
  request_pending s kind tag body _ _ fun u => by
    split
    · split <;> simp [ha]
    · rfl

@[simp] theorem directStep_pending (tag : Byte) (n : SiteId) (r : StepRecord) :
    (directStep tag n r s).pending = s.pending := by
  simp [directStep]

@[simp] theorem retestFlags_pending (n : SiteId) : (retestFlags n s).pending = s.pending := by
  simp only [retestFlags]
  split <;> simp

/-! ### What the events do -/

@[simp] theorem takeOutcome_pending (n : SiteId) (i : InstrId) (o : QuietOutcome) :
    (takeOutcome n i o s).pending = s.pending := by
  simp [takeOutcome]

@[simp] theorem discoverCard_pending (k : CardId) (answer : Option CardAnswer) :
    (discoverCard k answer s).pending = s.pending := by
  simp only [discoverCard]
  split <;> simp

/-! ### Instrument records and messages of the ports -/

@[simp] theorem disablePort_pending (i : InstrId) : (disablePort i s).pending = s.pending := by
  simp [disablePort]

@[simp] theorem replaceRecord_pending (i : InstrId) (r : InstrRecord) :
    (replaceRecord i r s).pending = s.pending := by
  simp [replaceRecord]

@[simp] theorem ackEffect_pending (i : InstrId) (p : Port) : (ackEffect i p s).pending = s.pending := by
  simp only [ackEffect]
  split <;> simp

@[simp] theorem userDone_pending (i : InstrId) (user : Option PortUser) :
    (userDone i user s).pending = s.pending := by
  simp only [userDone]
  split <;> simp

@[simp] theorem userFails_pending (i : InstrId) (user : Option PortUser) (err : StepError) (o : QuietOutcome) :
    (userFails i user err o s).pending = s.pending := by
  simp only [userFails]
  split <;> simp

@[simp] theorem ackAccepted_pending (i : InstrId) : (ackAccepted i s).pending = s.pending := by
  simp [ackAccepted]

@[simp] theorem nakAccepted_pending (i : InstrId) (reason : Byte) : (nakAccepted i reason s).pending = s.pending := by
  simp [nakAccepted]

@[simp] theorem valueAccepted_pending (i : InstrId) (code : Int) (status : Byte) :
    (valueAccepted i code status s).pending = s.pending := by
  simp only [valueAccepted]
  split <;> simp

@[simp] theorem identAccepted_pending (i : InstrId) (x : IdentFields) :
    (identAccepted i x s).pending = s.pending := by
  simp [identAccepted]

@[simp] theorem soundMessage_pending (i : InstrId) (m : PortMessage) : (soundMessage i m s).pending = s.pending := by
  simp only [soundMessage]
  split
  · split <;> simp
  · simp

@[simp] theorem exchangeTimedOut_pending (i : InstrId) : (exchangeTimedOut i s).pending = s.pending := by
  simp [exchangeTimedOut]

@[simp] theorem badChecksum_pending (i : InstrId) : (badChecksum i s).pending = s.pending := by
  simp [badChecksum]

@[simp] theorem portEvent_pending (i : InstrId) (e : PortEvent) : (portEvent i s e).pending = s.pending := by
  simp only [portEvent]
  split <;> simp

theorem portEvents_pending (i : InstrId) (es : List PortEvent) : (portEvents i es s).pending = s.pending :=
  portEvents_keeps s (·.pending = s.pending) i es (fun t e h => (portEvent_pending t i e).trans h) rfl

@[simp] theorem portByte_pending (i : InstrId) (b : Byte) : (portByte i s b).pending = s.pending := by
  simp [portByte, portEvents_pending]

@[simp] theorem portReceive_pending (i : InstrId) (bytes : List Byte) : (portReceive i bytes s).pending = s.pending :=
  foldl_pending s _ _ fun t b => portByte_pending t i b

@[simp] theorem goOffline_pending (i : InstrId) (cause : PortCause) : (goOffline i cause s).pending = s.pending := by
  simp [goOffline]

@[simp] theorem cancelEnded_pending (i : InstrId) : (cancelEnded i s).pending = s.pending := by
  simp only [cancelEnded]
  split <;> simp

@[simp] theorem sendProbe_pending (i : InstrId) : (sendProbe i s).pending = s.pending := rfl

@[simp] theorem rdyChanged_pending (i : InstrId) (level : Bool) : (rdyChanged i level s).pending = s.pending := by
  simp [rdyChanged]

/-! ### The fixture -/

@[simp] theorem changeDue_pending (l : LineId) : (changeDue l s).pending = s.pending := by
  unfold changeDue
  split
  · exact whenRun_pending s _ _ fun u => by simp
  · rfl

@[simp] theorem lidDue_pending (toClosed : Bool) : (lidDue toClosed s).pending = s.pending := by
  simp [lidDue]

@[simp] theorem replaceSettings_pending (xs : List LineSettings) : (replaceSettings xs s).pending = s.pending := rfl

@[simp] theorem rejudgeLines_pending : (rejudgeLines s).pending = s.pending :=
  foldl_pending s _ _ fun t l => judgeLine_pending t l false

@[simp] theorem endLoad_pending (held : Option Identity) (cause : Option LoadCause) :
    (endLoad held cause s).pending = s.pending := by
  simp [endLoad]

@[simp] theorem busDone_pending (items : List BusItem) : (busDone items s).pending = s.pending := rfl
@[simp] theorem loadRefused_pending (before : Nat) (k : Fin 4) : (loadRefused before k s).pending = s.pending := rfl

@[simp] theorem headerRead_pending (bytes : List Byte) (h : IdentityHeader) :
    (headerRead bytes h s).pending = s.pending := by
  simp only [headerRead]
  split <;> simp

@[simp] theorem bodyRead_pending (h : IdentityHeader) (bytes : List Byte) (body : List Window × BitVec 16) :
    (bodyRead h bytes body s).pending = s.pending := by
  simp [bodyRead]

@[simp] theorem putEmulated_pending (i : Identity) : (putEmulated i s).pending = s.pending := by
  simp [putEmulated]

@[simp] theorem reloadFixture_pending : (reloadFixture s).pending = s.pending := by
  simp [reloadFixture]

@[simp] theorem takeMemory_pending (kind tag : Byte) (command : EngineCommand) (transfer : Transfer) (items : List BusItem)
    (address length : Nat) (crosses : Bool) :
    (takeMemory kind tag command transfer items address length crosses s).pending = s.pending := by
  simp [takeMemory]

@[simp] theorem endTransfer_pending (error : Option EngineError) (status : Status) (fields : List Byte) :
    (endTransfer error status fields s).pending = s.pending := by
  simp only [endTransfer]
  split <;> simp

@[simp] theorem transferRefused_pending (k : Nat) : (transferRefused k s).pending = s.pending := rfl

@[simp] theorem pollAnswered_pending (ack : Bool) (length polls : Nat) (t : Timer) :
    (pollAnswered ack length polls t s).pending = s.pending := by
  simp [pollAnswered]

/-! ### The resets -/

@[simp] theorem lidAtReset_pending : (lidAtReset s).pending = s.pending := by
  simp [lidAtReset]

@[simp] theorem dropExchange_pending (i : InstrId) : (dropExchange i s).pending = s.pending := by
  simp [dropExchange]

@[simp] theorem resetSourceOff_pending (i : InstrId) : (resetSourceOff i s).pending = s.pending := by
  simp only [resetSourceOff]
  split
  · split <;> simp
  · rfl

@[simp] theorem resetPort_pending (i : InstrId) : (resetPort s i).pending = s.pending := by
  simp [resetPort]

@[simp] theorem resetRoutes_pending : (resetRoutes s).pending = s.pending := rfl

@[simp] theorem abandonPass_pending : (abandonPass s).pending = s.pending := by
  simp [abandonPass]

@[simp] theorem resetChain_pending : (resetChain s).pending = s.pending := rfl
@[simp] theorem resetLeases_pending : (resetLeases s).pending = s.pending := rfl
@[simp] theorem resetSites_pending : (resetSites s).pending = s.pending := rfl
@[simp] theorem readLid_pending : (readLid s).pending = s.pending := rfl

@[simp] theorem resetFixture_pending : (resetFixture s).pending = s.pending := by
  simp [resetFixture]

@[simp] theorem softResetTaken_pending : (softResetTaken s).pending = s.pending := by
  simp [softResetTaken, foldl_pending _ _ _ resetPort_pending]

end Sys2Proof.Machine
end

section
/-! Every command answers a next state with the queue of waiting commands as it was (O2; R194, R196). -/

namespace Sys2Proof.Machine

variable (s : State)

/-! ### Answers -/

/-- The answer is a next state with the queue `q`. -/
def AnswersWith (q : List Instr) (a : Answer) : Prop := ∃ t, a = .next t ∧ t.pending = q

@[simp] theorem answersWith_next (q : List Instr) (t : State) : AnswersWith q (.next t) ↔ t.pending = q :=
  ⟨fun ⟨_, ht, hq⟩ => by cases ht; exact hq, fun h => ⟨t, rfl, h⟩⟩

@[simp] theorem answersWith_ite (q : List Instr) {c : Prop} [Decidable c] (a b : Answer) :
    AnswersWith q (if c then a else b) ↔ if c then AnswersWith q a else AnswersWith q b := by
  split <;> rfl

variable {s} in
theorem request_queue {kind tag : Byte} {body : List Byte} {allowed : Bool} {handler : State → State}
    (hh : ∀ u, (handler u).pending = u.pending) :
    AnswersWith s.pending (.next (takeRequest kind tag body (withLength kind tag allowed handler) s)) :=
  ⟨_, rfl, request_pending s kind tag body allowed handler hh⟩

variable {s} in
/-- A request whose effect may select steps. -/
theorem request_settled_queue {kind tag : Byte} {body : List Byte} {allowed : Bool} {handler : State → State}
    (hh : ∀ u, (handler u).pending = u.pending) :
    AnswersWith s.pending (.next (settle (takeRequest kind tag body (withLength kind tag allowed handler) s))) :=
  ⟨_, rfl, (settle_pending _).trans (request_pending s kind tag body allowed handler hh)⟩

variable {s} in
theorem whenRun_queue {t : Timer} {effect : State → State} (he : ∀ u, (effect u).pending = u.pending) :
    AnswersWith s.pending (.next (whenRun t effect s)) := ⟨_, rfl, whenRun_pending s t effect he⟩

/-! ### The host link, the tables -/

theorem execUnknownKindFrame_queue (kind tag : Byte) (body : List Byte) :
    AnswersWith s.pending (execUnknownKindFrame kind tag body s) := by
  unfold execUnknownKindFrame
  split
  · simp
  · exact ⟨_, rfl, takeRequest_pending s kind tag body _ fun _ => rfl⟩

theorem execFragmentGapExpiry_queue : AnswersWith s.pending (execFragmentGapExpiry s) := by
  unfold execFragmentGapExpiry
  split
  · simp
  · exact whenRun_queue fun u => foldl_pending _ _ _ linkEvent_pending

theorem execFrameSent_queue : AnswersWith s.pending (execFrameSent s) := by
  unfold execFrameSent
  split <;> simp

theorem execLinkWatchdogExpiry_queue : AnswersWith s.pending (execLinkWatchdogExpiry s) := by
  unfold execLinkWatchdogExpiry
  split
  · simp
  · exact whenRun_queue watchdogExpired_pending

theorem cardSetRequest_queue (tag : Byte) (body : List Byte) :
    AnswersWith s.pending (.next (cardSetRequest tag body s)) := by
  refine request_queue fun u => ?_
  split
  · split <;> simp
  · split <;> simp
  · rfl

theorem execWearLoad_queue (tag : Byte) (body : List Byte) : AnswersWith s.pending (execWearLoad tag body s) := by
  refine request_queue fun u => ?_
  split
  · split
    · simp [foldl_pending _ _ _ (loadWear_pending · _ ·)]
    · simp
  · rfl

/-! ### The sites -/

theorem execStart_queue (tag : Byte) (body : List Byte) : AnswersWith s.pending (execStart tag body s) := by
  refine request_settled_queue fun u => ?_
  split
  · split
    · split <;> simp
    · simp
  · rfl

theorem execSafeOrder_queue (n : SiteId) : AnswersWith s.pending (execSafeOrder n s) := by
  unfold execSafeOrder
  split <;> simp

theorem execDelayExpiry_queue (n : SiteId) : AnswersWith s.pending (execDelayExpiry n s) := by
  unfold execDelayExpiry
  split
  · exact whenRun_queue fun u => by simp
  · simp

theorem execWaitFlagTimeout_queue (n : SiteId) : AnswersWith s.pending (execWaitFlagTimeout n s) := by
  unfold execWaitFlagTimeout
  split
  · exact whenRun_queue fun u => by simp
  · simp

theorem execStepWatchdogExpiry_queue (n : SiteId) : AnswersWith s.pending (execStepWatchdogExpiry n s) := by
  unfold execStepWatchdogExpiry
  split
  · exact whenRun_queue fun u => by simp
  · simp

theorem execQuietOutcome_queue (i : InstrId) : AnswersWith s.pending (execQuietOutcome i s) := by
  unfold execQuietOutcome
  split <;> simp

theorem execGrantEvent_queue (n : SiteId) (i : InstrId) : AnswersWith s.pending (execGrantEvent n i s) := by
  unfold execGrantEvent
  split <;> simp

/-! ### The relay chain -/

theorem execMakeTimerExpiry_queue (e : EntryId) : AnswersWith s.pending (execMakeTimerExpiry e s) := by
  unfold execMakeTimerExpiry
  split
  · split
    · exact whenRun_queue fun u => by simp
    · simp
  · simp

theorem execReleaseTimerExpiry_queue (e : EntryId) : AnswersWith s.pending (execReleaseTimerExpiry e s) := by
  unfold execReleaseTimerExpiry
  split
  · split
    · exact whenRun_queue fun u => by simp
    · simp
  · simp

theorem execDiscoveryEnd_queue (answers : Vector (Option CardAnswer) 16) :
    AnswersWith s.pending (execDiscoveryEnd answers s) := by
  simp [execDiscoveryEnd, foldl_pending _ _ _ fun t k => discoverCard_pending t k _]

theorem execWriteFrameSent_queue : AnswersWith s.pending (execWriteFrameSent s) := by
  unfold execWriteFrameSent
  split
  · split <;> simp
  · simp

theorem execLatch_queue : AnswersWith s.pending (execLatch s) := by
  simp only [execLatch]
  split
  · split <;> simp
  · simp

theorem execReadFrameAnswer_queue (answer : Option CardAnswer) :
    AnswersWith s.pending (execReadFrameAnswer answer s) := by
  simp only [execReadFrameAnswer]
  split
  · split
    · split <;> simp
    · simp
  · simp

theorem execRefreshExpiry_queue : AnswersWith s.pending (execRefreshExpiry s) := by
  unfold execRefreshExpiry
  split
  · split
    · simp
    · exact whenRun_queue fun u => by simp
  · simp

/-! ### The ports -/

theorem execResponseTimeout_queue (i : InstrId) : AnswersWith s.pending (execResponseTimeout i s) := by
  unfold execResponseTimeout
  split
  · split
    · exact whenRun_queue fun u => by simp
    · simp
  · simp

theorem execCancelSent_queue (i : InstrId) : AnswersWith s.pending (execCancelSent i s) := by
  unfold execCancelSent
  split <;> simp

theorem execProbeTimerExpiry_queue (i : InstrId) : AnswersWith s.pending (execProbeTimerExpiry i s) := by
  unfold execProbeTimerExpiry
  split
  · exact whenRun_queue (sendProbe_pending · i)
  · simp

theorem execRdyRawChange_queue (i : InstrId) (level : Bool) : AnswersWith s.pending (execRdyRawChange i level s) := by
  simp [execRdyRawChange]

theorem execRdyFilteredChange_queue (i : InstrId) : AnswersWith s.pending (execRdyFilteredChange i s) := by
  simp only [execRdyFilteredChange]
  split
  · simp
  · exact whenRun_queue (rdyChanged_pending · i _)

theorem execTriggerPulseEnd_queue (i : InstrId) : AnswersWith s.pending (execTriggerPulseEnd i s) := by
  unfold execTriggerPulseEnd
  split
  · exact whenRun_queue fun u => rfl
  · simp

theorem execTriggerSpacing_queue (i : InstrId) : AnswersWith s.pending (execTriggerSpacing i s) := by
  unfold execTriggerSpacing
  split
  · split
    · exact whenRun_queue (giveTrigger_pending · _ i)
    · simp
  · simp

/-! ### The fixture -/

theorem execInputRawChange_queue (l : LineId) (level : Bool) :
    AnswersWith s.pending (execInputRawChange l level s) := by
  simp [execInputRawChange]

theorem execLoadHeaderDone_queue (answer : MemoryAnswer) : AnswersWith s.pending (execLoadHeaderDone answer s) := by
  unfold execLoadHeaderDone
  split
  · split
    · simp
    · split <;> simp
  · simp

theorem execLoadBodyDone_queue (answer : MemoryAnswer) : AnswersWith s.pending (execLoadBodyDone answer s) := by
  unfold execLoadBodyDone
  split
  · split
    · simp
    · split <;> simp
    · simp
  · simp

theorem execFixmemReadDone_queue (answer : MemoryAnswer) : AnswersWith s.pending (execFixmemReadDone answer s) := by
  unfold execFixmemReadDone
  split <;> simp

theorem execFixmemWriteDone_queue (refused : Option Nat) : AnswersWith s.pending (execFixmemWriteDone refused s) := by
  unfold execFixmemWriteDone
  split <;> simp

theorem execFixmemWritePoll_queue (ack : Bool) : AnswersWith s.pending (execFixmemWritePoll ack s) := by
  unfold execFixmemWritePoll
  split
  · exact whenRun_queue fun u => by simp
  · simp

theorem execSoftResetEffect_queue : AnswersWith s.pending (execSoftResetEffect s) := by
  unfold execSoftResetEffect
  split <;> simp

/-! ### The commands -/

/-- A request by the branches of its handler; an event by its own lemma or by what its effect leaves of the queue. -/
theorem exec_queue (c : Instr) : AnswersWith s.pending (exec c s) := by
  cases c with
  | powerOnReset => exact ⟨_, rfl, rfl⟩
  | unknownKindFrame => exact execUnknownKindFrame_queue ..
  | ident | countersRead | softReset | safeEnter | safeLeave | fixtureRead | fixtureReload | fixmemTake | fixmemGive =>
    exact request_queue fun u => by simp
  | statusSummary | statusSites | statusInstruments | statusRoutes | statusCards | statusInputs
  | countersClearLink | countersClearWatchdog | countersClearPort | countersClearCard | watchdogSet | stepsRead
  | fixtureDefine | fixmemRead | fixmemWrite =>
    exact request_queue fun u => by split <;> simp
  | calSet | calRead | cardReset | wearRead | siteSet | varSet | flagClear =>
    exact request_queue fun u => by
      split
      · split <;> simp
      · rfl
  | stepsLoad | routedefLoad | limitsLoad =>
    exact request_queue fun u => by
      split
      · exact loadTable_pending (hw := fun _ _ => rfl) ..
      · rfl
  | cardSetCard | cardSetChain => exact cardSetRequest_queue ..
  | wearLoad => exact execWearLoad_queue ..
  | fetch | inputsSet => exact request_settled_queue fun u => by split <;> simp
  | direct | flagRaise | instrSet =>
    exact request_settled_queue fun u => by
      split
      · split <;> simp
      · rfl
  | start => exact execStart_queue ..
  | manual | varRead => exact ⟨_, rfl, siteRequest_pending s _ _ _ _ fun n u => by simp⟩
  | abort | siteClear =>
    exact ⟨_, rfl, (settle_pending _).trans (siteRequest_pending s _ _ _ _ fun n u => by simp)⟩
  | goodFrameArrival | frameLengthDrop => exact ⟨_, rfl, receive_pending ..⟩
  | fragmentGapExpiry => exact execFragmentGapExpiry_queue ..
  | frameSent => exact execFrameSent_queue ..
  | linkWatchdogExpiry => exact execLinkWatchdogExpiry_queue ..
  | safeOrder => exact execSafeOrder_queue ..
  | delayExpiry => exact execDelayExpiry_queue ..
  | waitFlagTimeout => exact execWaitFlagTimeout_queue ..
  | stepWatchdogExpiry => exact execStepWatchdogExpiry_queue ..
  | quietOutcome => exact execQuietOutcome_queue ..
  | grantEvent => exact execGrantEvent_queue ..
  | makeTimerExpiry => exact execMakeTimerExpiry_queue ..
  | releaseTimerExpiry => exact execReleaseTimerExpiry_queue ..
  | discoveryEnd => exact execDiscoveryEnd_queue ..
  | writeFrameSent => exact execWriteFrameSent_queue ..
  | latch => exact execLatch_queue ..
  | readFrameAnswer => exact execReadFrameAnswer_queue ..
  | refreshExpiry => exact execRefreshExpiry_queue ..
  | portAck | portNak | portValue | portIdent | portUnknownKindMessage | portBadChecksum =>
    exact ⟨_, rfl, portReceive_pending ..⟩
  | responseTimeout => exact execResponseTimeout_queue ..
  | cancelSent => exact execCancelSent_queue ..
  | probeTimerExpiry => exact execProbeTimerExpiry_queue ..
  | rdyRawChange => exact execRdyRawChange_queue ..
  | rdyFilteredChange => exact execRdyFilteredChange_queue ..
  | triggerPulseEnd => exact execTriggerPulseEnd_queue ..
  | triggerSpacing => exact execTriggerSpacing_queue ..
  | inputRawChange => exact execInputRawChange_queue ..
  | seatChange | startChange => exact ⟨_, rfl, changeDue_pending ..⟩
  | lidOpen | lidClose => exact ⟨_, rfl, lidDue_pending ..⟩
  | loadHeaderDone => exact execLoadHeaderDone_queue ..
  | loadBodyDone => exact execLoadBodyDone_queue ..
  | fixmemReadDone => exact execFixmemReadDone_queue ..
  | fixmemWriteDone => exact execFixmemWriteDone_queue ..
  | fixmemWritePoll => exact execFixmemWritePoll_queue ..
  | softResetEffect => exact execSoftResetEffect_queue ..

/-- Settles O2: both parts from the one state that `exec_queue` gives. -/
theorem everyCommandAnswersAndLeavesTheQueue : Obligations.EveryCommandAnswersAndLeavesTheQueue := by
  refine ⟨fun c s => ?_, fun c s t ht => ?_⟩
  · obtain ⟨t, ht, -⟩ := exec_queue s c
    exact ⟨t, ht⟩
  · exact (answersWith_next s.pending t).1 (ht ▸ exec_queue s c)

end Sys2Proof.Machine
end
